-- ==== Sys2Proof/Word.lean ====
section
/-! DEFINITION. The words of the Zetrian ZF4: bytes, bus addresses, and the numbers that name a lane, a queue or a
DMA port. -/

namespace Sys2Proof

/-- One byte of the data bus D0 to D7. -/
abbrev Byte := BitVec 8

/-- One address of the register window, A0 to A6 (R164). -/
abbrev Addr := BitVec 7

/-- A lane number, 0 to 3. -/
abbrev LaneId := Fin 4

/-- A queue number, 0 to 7. -/
abbrev QueueId := Fin 8

/-- A DMA port number, 0 or 1. -/
abbrev PortId := Fin 2

end Sys2Proof
end

