-- ==== Sys2Proof/Syntax.lean ====
section
/-! DEFINITION. The commands of the part: one constructor for each row of spec/opcode_table.json, with the operands
that the row's rule gives it. -/

namespace Sys2Proof

/-- Which byte of a two-byte register an access reaches (R165). -/
inductive Half where
  | low
  | high
  deriving DecidableEq, Repr

/-- What the strobes and CS# do in a host access, with both DACK inputs high (R154). -/
inductive HostStrobe where
  /-- WR# alone, CS# low. -/
  | write
  /-- RD# alone, CS# low. -/
  | read
  /-- RD# and WR# together, CS# low. -/
  | readAndWrite
  /-- Any strobe with CS# high. -/
  | unselected
  deriving DecidableEq, Repr

/-- What the strobes do while an acknowledge input is low, whatever CS# and A0 to A6 are (R155). -/
inductive AckStrobe where
  /-- RD# alone; DACKn# of this port low, the other high. -/
  | read (port : PortId)
  /-- RD# alone; DACK0# and DACK1# both low. -/
  | readBoth
  /-- WR# alone; either acknowledge low. -/
  | write
  /-- RD# and WR# together; either acknowledge low. -/
  | readAndWrite
  /-- An acknowledge low and no strobe. -/
  | noStrobe
  deriving DecidableEq, Repr

/-- The commands. Each is one indivisible happening (95_what_each_step_holds.md). The commands issued through CMD
carry no operand, since they read CARG (R157). -/
inductive Instr where
  | takeBit (lane : LaneId) (bit : Bool)
  | tick
  | silenceExpiry (lane : LaneId)
  | copyStep
  | laneStart
  | laneStop
  | laneResync
  | tableSwap
  | tableCopy
  | queueOpen
  | queueHold
  | queueDisable
  | timeLatch
  | timeLoad
  | recordsFlush
  | softReset
  | commandBadCode (code : Byte)
  | hardwareReset
  | resetRelease
  | lselWrite (value : Byte)
  | pidxWrite (value : Byte)
  | pdataRead
  | pdataWrite (value : Byte)
  | lslipRead
  | lseqRead (half : Half)
  | twidxWrite (half : Half) (value : Byte)
  | twidxRead (half : Half)
  | twdataWrite (value : Byte)
  | tridxWrite (half : Half) (value : Byte)
  | tridxRead (half : Half)
  | trbankWrite (value : Byte)
  | trdataRead
  | qselWrite (value : Byte)
  | qquotaWrite (half : Half) (value : Byte)
  | qthrWrite (half : Half) (value : Byte)
  | qmodeWrite (value : Byte)
  | qdepthRead (half : Half)
  | qlostRead (half : Half)
  | poolfreeRead (half : Half)
  | qdataRead (byte : Fin 4)
  | dbindWrite (port : PortId) (value : Byte)
  | ddataRead (port : PortId) (byte : Fin 4)
  | dmaAcknowledgeRead (strobe : AckStrobe)
  | rdataRead (byte : Fin 16)
  | rlossRead
  | timeRead (byte : Fin 6)
  | adataRead (byte : Fin 5)
  | registerWrite (strobe : HostStrobe) (addr : Addr) (value : Byte)
  deriving DecidableEq, Repr

end Sys2Proof
end

