-- ==== Sys2Proof/Decode.lean ====
section
/-! DEFINITION. The command that a word spells. No row of spec/opcode_table.json gives bits (the part takes happenings,
not encoded instructions), so no word spells a command. -/

namespace Sys2Proof

/-- The command spelled by the `nbits` low bits of `w`: none, for every word, since the table has no encoding. -/
def decodeTableWord (_nbits _w : Nat) : Option Instr := none

end Sys2Proof
end

