-- ==== Sys2Proof/Config.lean ====
section
/-! DEFINITION. What the part fixes (the capacities of 00_scope.md) and the one value the spec leaves open. -/

namespace Sys2Proof.Config

/-- Bits that the bit history of a lane holds (R2). -/
def historyBits : Nat := 33

/-- Word records that a staging list holds (R83). -/
def stagingWords : Nat := 32

/-- Slots of the shared word pool, and the largest quota and threshold (R110, R112, R113). -/
def poolSlots : Nat := 1024

/-- Frame records that the frame record queue holds (R134). -/
def recordSlots : Nat := 64

/-- Selection entries of one bank (R92). -/
def bankEntries : Nat := 256

/-- Records of one bank: 256 selection entries and 4 directory records (R92). -/
def bankRecords : Nat := 260

/-- FREE VALUE. The order in which lanes whose silence expires on one and the same tick are taken, as a code that
`Sys2Proof.Machine.arrange` turns into an order. No rule gives that order (log entry 2), so nothing is known of it. -/
opaque silenceOrder : Nat → Nat

end Sys2Proof.Config
end

