-- ==== Sys2Proof/Machine/State.lean ====
section
/-! DEFINITION. The state of the Zetrian ZF4, block by block as the chapters of spec/ list it, the state after hardware
reset, and the (empty) list of reasons for which the machine stops. Every reset value is the spec's own, but for the two
fields that are the model's, `choices` and `pending`, and the moment that `State.reset` stands for (log entries 1, 2, 4). -/

namespace Sys2Proof.Machine

/-! ### Lane intake (01_lane_intake.md) -/

/-- The correction applied to every bit taken (R3). -/
inductive Polarity where
  | normal
  | inverted
  deriving DecidableEq, Repr

/-- One bit of the bit history, as received and as corrected (R2). -/
structure HistBit where
  recv : Bool
  corr : Bool
  deriving DecidableEq, Repr

/-- The lane profile, 24 bytes (R7 to R13); its fields are read by the accessors of Operands.lean (R169). -/
structure Profile where
  bytes : Vector Byte 24
  deriving DecidableEq, Repr

/-- The intake of one lane. Its run state is not a field: the lane runs exactly while its lock state is not OFF. -/
structure Intake where
  /-- Bit history, newest first; the fill count is its length (R2). -/
  hist : List HistBit
  polarity : Polarity
  /-- Silence counter (R4). -/
  silence : Byte
  /-- Silent flag (R5). -/
  silent : Bool
  /-- Slip counter (R6). -/
  slip : Byte
  profile : Profile
  /-- Profile write holding place, by profile byte; R9 uses the low bytes of the multi-byte fields (log entry 8). -/
  holding : Vector Byte 24
  deriving DecidableEq, Repr

/-! ### Frame lock engine (02_frame_lock.md, R20) -/

inductive LockState where
  | off
  | search
  | check
  | lock
  | coast
  deriving DecidableEq, Repr

/-- How a delivered frame began (R35). -/
inductive StartKind where
  | confirm
  | lock
  | coast
  deriving DecidableEq, Repr

/-- The slip by which a frame's sync was accepted (R28). -/
inductive StartSlip where
  | none
  | early
  | late
  deriving DecidableEq, Repr

/-- How a delivered frame ended (R38, R39). -/
inductive EndClass where
  | normal
  | short
  | long
  | unconfirmed
  | abandoned
  deriving DecidableEq, Repr

/-- The frame in progress (R35). -/
structure Frame where
  kind : StartKind
  slip : StartSlip
  /-- Sync errors, capped at 15 (R31). -/
  errors : BitVec 4
  timeTag : BitVec 48
  seq : BitVec 16
  deriving DecidableEq, Repr

structure Engine where
  lock : LockState
  /-- Good count. -/
  good : Nat
  /-- Bad count. -/
  bad : Nat
  /-- Bit position within the frame. -/
  bitPos : Nat
  /-- Late test: pending with the El value read when it began (R27). -/
  late : Option Nat
  /-- Frame in progress. -/
  frame : Option Frame
  /-- Frame sequence counter (R36). -/
  seq : BitVec 16
  deriving DecidableEq, Repr

/-! ### Cycle tracker (03_cycle_tracking.md, R48) -/

inductive CycleState where
  | search
  | verify
  | lock
  | counted
  deriving DecidableEq, Repr

structure Tracker where
  state : CycleState
  /-- Last position. -/
  last : Byte
  /-- Miss count. -/
  miss : Nat
  prediction : Option Byte
  /-- Frame position; none is unknown. -/
  framePos : Option Byte
  /-- Frame cycle state. -/
  frameState : Option CycleState
  deriving DecidableEq, Repr

/-! ### Word selector (04_word_selection.md, R61) -/

/-- One of the two selection table banks. -/
inductive Bank where
  | bank0
  | bank1
  deriving DecidableEq, Repr

structure Selector where
  /-- Frame open. -/
  isOpen : Bool
  /-- Frame bank. -/
  bank : Bank
  segBase : Byte
  /-- Segment end; none is the empty segment. -/
  segStop : Option Nat
  cursor : Nat
  /-- Start kind of the frame. -/
  kind : Option StartKind
  seq3 : BitVec 3
  delivered : Byte
  queueLoss : Byte
  withheld : Byte
  deriving DecidableEq, Repr

/-! ### Check block (05_frame_check_and_staged_delivery.md, R78) -/

/-- The word record of R72. Its valid field is 1 in every record, so it is no field here (R171). -/
structure WordRecord where
  value : BitVec 16
  tag : Byte
  lane : LaneId
  coasted : Bool
  verified : Bool
  seq3 : BitVec 3
  deriving DecidableEq, Repr

/-- A gated word record held back, with the queue its entry names (R71, R83). -/
structure Staged where
  queue : QueueId
  word : WordRecord
  deriving DecidableEq, Repr

/-- The frame check state of an open frame. -/
inductive CheckState where
  | noCheck
  | pending
  | good
  | bad
  deriving DecidableEq, Repr

/-- The check result that a frame record carries (R87). -/
inductive CheckResult where
  | noCheck
  | good
  | bad
  | unchecked
  deriving DecidableEq, Repr

structure CheckBlock where
  /-- Check register. -/
  reg : BitVec 16
  /-- Frame check state; none while no delivered frame is open. -/
  state : Option CheckState
  staging : List Staged
  overflow : Bool
  discarded : Byte
  deriving DecidableEq, Repr

/-- One lane: its five blocks, and the bank in use that the table store keeps for it (R93). -/
structure LaneState where
  intake : Intake
  engine : Engine
  tracker : Tracker
  selector : Selector
  check : CheckBlock
  bankInUse : Bank
  deriving DecidableEq, Repr

/-! ### Table store (06_table_banks_swap_and_copy.md, R92) -/

/-- An addressed store of bytes: (address, byte) pairs, addresses strictly rising, no listed byte 0. An unlisted
address reads 0, the reset content of both banks (R92, R108). -/
abbrev Memory := List Host.Cell

structure TableStore where
  /-- Both banks, byte by byte; Machine/Memory.lean gives the addresses. -/
  ram : Memory
  active : Bank
  /-- Swap-in-progress flag. -/
  swapping : Bool
  /-- Copy state: true is BUSY. -/
  copying : Bool
  copyAborted : Bool
  /-- Copy progress index. -/
  copyIdx : Nat
  /-- TWIDX, the write cursor. -/
  wIdx : Fin 260
  /-- Write byte index. -/
  wByte : Fin 6
  /-- Write staging record. -/
  wStage : Vector Byte 6
  /-- TWIDX low-byte holding place. -/
  wLow : Byte
  /-- TWIDX bit-8 read latch. -/
  wLatch : Bool
  /-- TRIDX, the read cursor. -/
  rIdx : Fin 260
  /-- TRBANK, the read bank select. -/
  rBank : Bank
  /-- Read byte index. -/
  rByte : Fin 6
  /-- Read holding record. -/
  rHold : Vector Byte 6
  /-- TRIDX low-byte holding place. -/
  rLow : Byte
  /-- TRIDX bit-8 read latch. -/
  rLatch : Bool
  deriving DecidableEq, Repr

/-! ### Queue block (07_output_queues.md, R109) -/

inductive QueueState where
  | disabled
  | opened
  | held
  deriving DecidableEq, Repr

inductive Policy where
  | dropNew
  | dropOld
  deriving DecidableEq, Repr

structure Queue where
  state : QueueState
  quota : Nat
  threshold : Nat
  policy : Policy
  drain : Bool
  /-- Entries, oldest first; the depth is the length. -/
  entries : List WordRecord
  /-- Lost counter. -/
  lost : BitVec 16
  deriving DecidableEq, Repr

/-- One DMA port: holding register, byte index, binding. -/
structure DmaPort where
  hold : Vector Byte 4
  idx : Fin 4
  bind : Option QueueId
  deriving DecidableEq, Repr

structure QueueBlock where
  /-- Pool free count. -/
  free : Nat
  queue : Vector Queue 8
  qsel : QueueId
  /-- QQUOTA low-byte holding place. -/
  quotaLow : Byte
  /-- QTHR low-byte holding place. -/
  thrLow : Byte
  depthLatch : BitVec 16
  lostLatch : BitVec 16
  freeLatch : BitVec 16
  /-- Host holding register. -/
  hostHold : Vector Byte 4
  port : Vector DmaPort 2
  deriving DecidableEq, Repr

/-! ### Frame record queue (08_frame_records.md, R131, R133) -/

/-- A frame record (R133). Its valid field is 1 in every stored record, so it is no field here (R172). -/
structure FrameRecord where
  lane : LaneId
  kind : StartKind
  slip : StartSlip
  endClass : EndClass
  errors : BitVec 4
  inverted : Bool
  seq : BitVec 16
  timeTag : BitVec 48
  cyclePos : Byte
  cycleState : CycleState
  delivered : Byte
  queueLoss : Byte
  withheld : Byte
  result : CheckResult
  overflow : Bool
  discarded : Byte
  gap : Bool
  deriving DecidableEq, Repr

structure RecordQueue where
  /-- Records held, oldest first. -/
  list : List FrameRecord
  /-- Record-loss counter. -/
  loss : Byte
  /-- Pending-gap flag. -/
  gap : Bool
  /-- Pop holding register. -/
  hold : Vector Byte 16
  deriving DecidableEq, Repr

/-! ### Time base and attention list (09_time_base_and_attention_list.md, R142, R147) -/

structure TimeBase where
  counter : BitVec 48
  /-- Read latch. -/
  latch : BitVec 48
  /-- Capture-waiting flag. -/
  waiting : Bool
  preset : Vector Byte 6
  deriving DecidableEq, Repr

/-- The 17 attention causes, in the order of their codes (R147). -/
inductive Cause where
  | lockGained
  | lockLost
  | coastEntered
  | polaritySet
  | laneSilent
  | cycleLocked
  | cycleLost
  | checkBad
  | stageOverflow
  | queueThreshold
  | queueLoss
  | poolEmpty
  | recordLoss
  | swapDone
  | copyDone
  | tableRefused
  | configRefused
  deriving DecidableEq, Repr

structure AttnRecord where
  cause : Cause
  source : Byte
  /-- Repeat count. -/
  count : Byte
  /-- First time. -/
  first : BitVec 16
  deriving DecidableEq, Repr

structure AttnList where
  /-- Records, in order of listing. -/
  list : List AttnRecord
  /-- Admission masks; bit (cause - 1) admits the cause (R149). -/
  masks : BitVec 17
  /-- Pop holding register. -/
  hold : Vector Byte 5
  deriving DecidableEq, Repr

/-! ### Command unit (10_host_port_and_commands.md, R156 to R158) -/

/-- The reason of a refused command (R158). -/
inductive Reason where
  | badCode
  | badArg
  | wrongState
  | busy
  | badProfile
  deriving DecidableEq, Repr

/-- What CSTAT shows (R158). -/
inductive CmdStatus where
  | noCommand
  | done
  | started
  | refused (reason : Reason)
  deriving DecidableEq, Repr

/-! ### The machine -/

structure State where
  lanes : Vector LaneState 4
  tables : TableStore
  queues : QueueBlock
  records : RecordQueue
  time : TimeBase
  attn : AttnList
  /-- CARG (R156). -/
  carg : Byte
  /-- CSTAT (R158). -/
  cstat : CmdStatus
  /-- CLAST (R157). -/
  clast : Byte
  /-- LSEL (R7). -/
  lsel : LaneId
  /-- PIDX (R7). -/
  pidx : Fin 24
  /-- LSEQ latch, shared by the lanes (R37). -/
  lseqLatch : BitVec 16
  /-- The RESET# pin: true while it is low (R161). -/
  resetLow : Bool
  /-- What the part drives on D0 to D7 in the last happening; none is not driven (R154, R155). -/
  dataOut : Option Byte
  /-- The MODEL's own: how many free choices have been used (log entry 2). -/
  choices : Nat
  /-- The MODEL's own: the commands that wait, first in, first out (log entry 4). -/
  pending : List Instr
  deriving DecidableEq, Repr

/-- Reasons for which a command stops the part. There is none: every refusal that the spec describes is reported in a
register and leaves a next state, so this type has no constructor. -/
inductive Fault where
  deriving DecidableEq, Repr

/-- Reasons for which the model gives a command no meaning. -/
inductive Refusal where
  /-- Raised by `exec` alone, for a command without a meaning yet. Safe: the machine stops. No arm raises it. -/
  | notModelled (mnemonic : String)
  deriving DecidableEq, Repr

/-! ### After hardware reset -/

/-- The reset profile of R13, byte by byte in the layout of R169. -/
def Profile.reset : Profile where
  bytes := #v[8, 2, 16, 0, 0, 0, 0, 0, 0, 0, 0, 0, 0x00, 0x22, 0, 0, 0, 0, 0, 8, 0, 0, 0xFF, 0xFF]

/-- R19, R13. -/
def Intake.reset : Intake where
  hist := []
  polarity := .normal
  silence := 0
  silent := false
  slip := 0
  profile := Profile.reset
  holding := Profile.reset.bytes

/-- R20. -/
def Engine.reset : Engine where
  lock := .off
  good := 0
  bad := 0
  bitPos := 0
  late := none
  frame := none
  seq := 0

/-- R48. -/
def Tracker.reset : Tracker where
  state := .search
  last := 0
  miss := 0
  prediction := none
  framePos := none
  frameState := none

/-- R61. -/
def Selector.reset : Selector where
  isOpen := false
  bank := .bank0
  segBase := 0
  segStop := none
  cursor := 0
  kind := none
  seq3 := 0
  delivered := 0
  queueLoss := 0
  withheld := 0

/-- R78. -/
def CheckBlock.reset : CheckBlock where
  reg := 0
  state := none
  staging := []
  overflow := false
  discarded := 0

def LaneState.reset : LaneState where
  intake := Intake.reset
  engine := Engine.reset
  tracker := Tracker.reset
  selector := Selector.reset
  check := CheckBlock.reset
  bankInUse := .bank0

/-- R92. -/
def TableStore.reset : TableStore where
  ram := []
  active := .bank0
  swapping := false
  copying := false
  copyAborted := false
  copyIdx := 0
  wIdx := 0
  wByte := 0
  wStage := Vector.replicate 6 0
  wLow := 0
  wLatch := false
  rIdx := 0
  rBank := .bank0
  rByte := 0
  rHold := Vector.replicate 6 0
  rLow := 0
  rLatch := false

/-- R109. -/
def Queue.reset : Queue where
  state := .disabled
  quota := 0
  threshold := 1
  policy := .dropNew
  drain := false
  entries := []
  lost := 0

/-- R109; the empty record is four bytes of 0. -/
def DmaPort.reset : DmaPort where
  hold := Vector.replicate 4 0
  idx := 0
  bind := none

/-- R109. -/
def QueueBlock.reset : QueueBlock where
  free := 1024
  queue := Vector.replicate 8 Queue.reset
  qsel := 0
  quotaLow := 0
  thrLow := 0
  depthLatch := 0
  lostLatch := 0
  freeLatch := 0
  hostHold := Vector.replicate 4 0
  port := Vector.replicate 2 DmaPort.reset

/-- R131. -/
def RecordQueue.reset : RecordQueue where
  list := []
  loss := 0
  gap := false
  hold := Vector.replicate 16 0

/-- R142. -/
def TimeBase.reset : TimeBase where
  counter := 0
  latch := 0
  waiting := false
  preset := Vector.replicate 6 0

/-- R147. -/
def AttnList.reset : AttnList where
  list := []
  masks := 0
  hold := Vector.replicate 5 0

/-- The part as RESET# goes high after a hardware reset (R161, R162): every block in the hardware reset column of its
chapter, and the part ready to take happenings. -/
def State.reset : State where
  lanes := Vector.replicate 4 LaneState.reset
  tables := TableStore.reset
  queues := QueueBlock.reset
  records := RecordQueue.reset
  time := TimeBase.reset
  attn := AttnList.reset
  carg := 0
  cstat := .noCommand
  clast := 0
  lsel := 0
  pidx := 0
  lseqLatch := 0
  resetLow := false
  dataOut := none
  choices := 0
  pending := []

end Sys2Proof.Machine
end

