-- ==== Sys2Proof/Machine/Memory.lean ====
section
/-! DEFINITION. The store that holds the two selection table banks: bytes by address in one canonical form, and the
six-byte records of R92 and R170 over it. -/

namespace Sys2Proof.Machine

/-- The byte at an address; an unlisted address reads 0 (R108). -/
def Memory.read : Memory → Nat → Byte
  | [], _ => 0#8
  | (b, w) :: m, a => if a = b then w else Memory.read m a

/-- Store a byte, keeping addresses rising and no byte 0 listed. -/
def Memory.write : Memory → Nat → Byte → Memory
  | [], a, v => if v = 0#8 then [] else [(a, v)]
  | (b, w) :: m, a, v =>
    if a < b then (if v = 0#8 then (b, w) :: m else (a, v) :: (b, w) :: m)
    else if a = b then (if v = 0#8 then m else (a, v) :: m)
    else (b, w) :: Memory.write m a v

/-- Every address is at least `lo`, addresses rise strictly, and no byte listed is 0. -/
def Memory.wfFrom : Nat → Memory → Bool
  | _, [] => true
  | lo, (b, w) :: m => decide (lo ≤ b) && w != 0#8 && Memory.wfFrom (b + 1) m

/-- The canonical form. -/
def Memory.wf (m : Memory) : Bool := Memory.wfFrom 0 m

/-- Bank 0 or 1 as DSTAT bit 0 and TRBANK show it (R107, R98). -/
def Bank.toNat : Bank → Nat
  | .bank0 => 0
  | .bank1 => 1

/-- The other bank; the edit bank is the other of ACTIVE (R93). -/
def Bank.other : Bank → Bank
  | .bank0 => .bank1
  | .bank1 => .bank0

/-- The address of byte `k` of the record at port index `x` of a bank. -/
def recordAddr (b : Bank) (x : Nat) (k : Fin 6) : Nat := (260 * b.toNat + x) * 6 + k.val

/-- The six bytes of a record, as the table port shows them. -/
def Memory.readRecord (m : Memory) (b : Bank) (x : Nat) : Vector Byte 6 :=
  Vector.ofFn fun k => m.read (recordAddr b x k)

/-- Store the six bytes of a record. -/
def Memory.writeRecord (m : Memory) (b : Bank) (x : Nat) (r : Vector Byte 6) : Memory :=
  ([0, 1, 2, 3, 4, 5] : List (Fin 6)).foldl (fun m k => m.write (recordAddr b x k) r[k]) m

end Sys2Proof.Machine
end

