-- ==== Sys2Proof/Machine/Operands.lean ====
section
/-! DEFINITION. How operands are read: access to lanes, queues and ports, saturating counters, the byte order of
multi-byte fields (R165), the fields of the lane profile (R169), the layouts of the records that cross the bus (R170 to
R173), and the tests of the profile that LANE_START makes (R14). -/

namespace Sys2Proof.Machine

/-! ### Lanes, queues, ports -/

def State.lane (s : State) (i : LaneId) : LaneState := s.lanes[i]

def State.setLane (s : State) (i : LaneId) (l : LaneState) : State := { s with lanes := s.lanes.set i l }

def State.mapLane (s : State) (i : LaneId) (f : LaneState → LaneState) : State := s.setLane i (f (s.lane i))

def State.queue (s : State) (q : QueueId) : Queue := s.queues.queue[q]

def State.setQueue (s : State) (q : QueueId) (v : Queue) : State :=
  { s with queues.queue := s.queues.queue.set q v }

def State.port (s : State) (n : PortId) : DmaPort := s.queues.port[n]

def State.setPort (s : State) (n : PortId) (p : DmaPort) : State :=
  { s with queues.port := s.queues.port.set n p }

/-- The number of entries a queue holds (R109). -/
def Queue.depth (q : Queue) : Nat := q.entries.length

/-! ### Counters and bytes -/

/-- One more, stopping at the maximum ("Counters", 00_scope.md). -/
def satInc {w : Nat} (x : BitVec w) : BitVec w := if x = BitVec.allOnes w then x else x + 1

/-- `n` more, stopping at 255. -/
def satAdd8 (x : Byte) (n : Nat) : Byte := BitVec.ofNat 8 (min 255 (x.toNat + n))

def loByte (x : BitVec 16) : Byte := x.extractLsb' 0 8

def hiByte (x : BitVec 16) : Byte := x.extractLsb' 8 8

/-- Low or high byte of a two-byte field (R165). -/
def halfOf (h : Half) (x : BitVec 16) : Byte :=
  match h with
  | .low => loByte x
  | .high => hiByte x

/-- Byte `k` of a 48-bit field (R165). -/
def byte48 (x : BitVec 48) (k : Nat) : Byte := x.extractLsb' (8 * k) 8

/-- A 16-bit field from its low and high byte (R165). -/
def join16 (lo hi : Byte) : BitVec 16 := hi ++ lo

/-- A 48-bit field from its six bytes (R165, R146). -/
def join48 (v : Vector Byte 6) : BitVec 48 := v[5] ++ v[4] ++ v[3] ++ v[2] ++ v[1] ++ v[0]

/-- Advance a byte index, to 0 after its last value. -/
def nextIdx {n : Nat} (i : Fin (n + 1)) : Fin (n + 1) := i + 1

/-! ### Profile fields (R169) -/

/-- Word length W. -/
def Profile.wordLen (p : Profile) : Nat := p.bytes[0].toNat

/-- Sync words S. -/
def Profile.syncWords (p : Profile) : Nat := p.bytes[1].toNat

/-- Sync length L, S times W. -/
def Profile.syncLen (p : Profile) : Nat := p.syncWords * p.wordLen

/-- Frame length N in words. -/
def Profile.frameWords (p : Profile) : Nat := (join16 p.bytes[2] p.bytes[3]).toNat

/-- Frame length F in bits. -/
def Profile.frameBits (p : Profile) : Nat := p.frameWords * p.wordLen

/-- Sync pattern P. -/
def Profile.pattern (p : Profile) : BitVec 32 := p.bytes[7] ++ p.bytes[6] ++ p.bytes[5] ++ p.bytes[4]

/-- Compare mask. -/
def Profile.mask (p : Profile) : BitVec 32 := p.bytes[11] ++ p.bytes[10] ++ p.bytes[9] ++ p.bytes[8]

/-- Search tolerance Es. -/
def Profile.searchTol (p : Profile) : Nat := (p.bytes[12].extractLsb' 0 4).toNat

/-- Lock tolerance El. -/
def Profile.lockTol (p : Profile) : Nat := (p.bytes[12].extractLsb' 4 4).toNat

/-- Check count C. -/
def Profile.checkCount (p : Profile) : Nat := (p.bytes[13].extractLsb' 0 4).toNat

/-- Coast limit K. -/
def Profile.coastLimit (p : Profile) : Nat := (p.bytes[13].extractLsb' 4 4).toNat

/-- The polarity-mode bits of byte 14: NORMAL 0, INVERTED 1, AUTO 2. -/
def Profile.polarityMode (p : Profile) : BitVec 2 := p.bytes[14].extractLsb' 0 2

/-- Slip window on. -/
def Profile.slipWindow (p : Profile) : Bool := p.bytes[14].getLsbD 2

/-- The record-mode bits of byte 14: NONE 0, EXCEPTIONS 1, ALL 2; 3 is never stored (R11). -/
def Profile.recordMode (p : Profile) : BitVec 2 := p.bytes[14].extractLsb' 3 2

/-- Silence limit in ticks; 0 is never. -/
def Profile.silenceLimit (p : Profile) : Byte := p.bytes[15]

/-- Cycle length M, byte 16 plus one. -/
def Profile.cycleLen (p : Profile) : Nat := p.bytes[16].toNat + 1

/-- Counter word position Cw. -/
def Profile.counterWord (p : Profile) : Nat := (join16 p.bytes[17] p.bytes[18]).toNat

/-- Counter width B. -/
def Profile.counterWidth (p : Profile) : Nat := p.bytes[19].toNat

/-- Check word position Ck. -/
def Profile.checkWord (p : Profile) : Nat := (join16 p.bytes[20] p.bytes[21]).toNat

/-- Check register seed. -/
def Profile.seed (p : Profile) : BitVec 16 := join16 p.bytes[22] p.bytes[23]

/-- Marked mode: Cw nonzero and M at least 2 (R49). -/
def Profile.marked (p : Profile) : Bool := p.counterWord != 0 && decide (2 ≤ p.cycleLen)

/-- A compare-mask bit among the low `n` is 1 (R14, condition 4). -/
def maskHasOne (m : BitVec 32) : Nat → Bool
  | 0 => false
  | n + 1 => m.getLsbD n || maskHasOne m n

/-- A word position is 0 or a data word position S to N-1 (R14, conditions 7 and 9). -/
def Profile.positionOk (p : Profile) (x : Nat) : Bool :=
  x == 0 || (decide (p.syncWords ≤ x) && decide (x < p.frameWords))

/-- The ten conditions of R14. -/
def Profile.startable (p : Profile) : Bool :=
  decide (8 ≤ p.wordLen) && decide (p.wordLen ≤ 16) && decide (1 ≤ p.syncWords) && decide (p.syncWords ≤ 4) &&
  decide (8 ≤ p.syncLen) && decide (p.syncLen ≤ 32) &&
  decide (p.syncWords + 1 ≤ p.frameWords) && decide (p.frameWords ≤ 1024) &&
  maskHasOne p.mask p.syncLen &&
  decide (p.searchTol ≤ 7) && decide (p.lockTol ≤ 7) && decide (1 ≤ p.checkCount) &&
  p.polarityMode != 3 &&
  p.positionOk p.counterWord &&
  decide (1 ≤ p.counterWidth) && decide (p.counterWidth ≤ min p.wordLen 8) &&
  p.positionOk p.checkWord &&
  !(p.counterWord != 0 && p.checkWord == p.counterWord)

/-- The first byte of the field that profile byte `k` belongs to (R9, R169). -/
def fieldFirst (k : Nat) : Nat :=
  if 2 ≤ k ∧ k ≤ 3 then 2
  else if 4 ≤ k ∧ k ≤ 7 then 4
  else if 8 ≤ k ∧ k ≤ 11 then 8
  else if 17 ≤ k ∧ k ≤ 18 then 17
  else if 20 ≤ k ∧ k ≤ 21 then 20
  else if 22 ≤ k ∧ k ≤ 23 then 22
  else k

/-- The byte at which the field of profile byte `k` takes effect: its highest (R9). -/
def fieldHighest (k : Nat) : Nat :=
  if 2 ≤ k ∧ k ≤ 3 then 3
  else if 4 ≤ k ∧ k ≤ 7 then 7
  else if 8 ≤ k ∧ k ≤ 11 then 11
  else if 17 ≤ k ∧ k ≤ 18 then 18
  else if 20 ≤ k ∧ k ≤ 21 then 21
  else if 22 ≤ k ∧ k ≤ 23 then 23
  else k

/-- The structural bytes, refused while the lane runs (R10). -/
def structuralByte (k : Nat) : Bool := decide (k ≤ 11) || decide (16 ≤ k)

/-! ### Selection entries and directory records (R65, R97, R170) -/

inductive FilterMode where
  | all
  | atPos
  | every
  | parked
  deriving DecidableEq, Repr

def FilterMode.ofBits (b : BitVec 2) : FilterMode :=
  match b.toNat with
  | 0 => .all
  | 1 => .atPos
  | 2 => .every
  | _ => .parked

/-- A selection entry (R65). -/
structure SelEntry where
  valid : Bool
  position : Nat
  mode : FilterMode
  a : Byte
  k : Byte
  queue : QueueId
  gated : Bool
  tag : Byte
  deriving DecidableEq, Repr

/-- The entry that six bytes hold (R170). -/
def SelEntry.ofBytes (v : Vector Byte 6) : SelEntry where
  valid := v[5].getLsbD 7
  position := (v[1].extractLsb' 0 2 ++ v[0]).toNat
  mode := FilterMode.ofBits (v[1].extractLsb' 2 2)
  a := v[2]
  k := v[3]
  queue := (v[1].extractLsb' 5 3).toFin
  gated := v[1].getLsbD 4
  tag := v[4]

/-- Base and count of a directory record (R97, R170). -/
structure DirRecord where
  base : Byte
  count : Nat
  deriving DecidableEq, Repr

def DirRecord.ofBytes (v : Vector Byte 6) : DirRecord where
  base := v[0]
  count := (v[2].extractLsb' 0 1 ++ v[1]).toNat

/-- The bytes of a committed record that are stored: the bits without a field are not (R97, R166). -/
def storedRecord (x : Nat) (v : Vector Byte 6) : Vector Byte 6 :=
  if x < Config.bankEntries then #v[v[0], v[1], v[2], v[3], v[4], v[5] &&& 0x80]
  else #v[v[0], v[1], v[2] &&& 1, 0, 0, 0]

/-- The selection entry at an index of a bank, as it stands (R64). -/
def State.entryAt (s : State) (b : Bank) (x : Nat) : SelEntry := SelEntry.ofBytes (s.tables.ram.readRecord b x)

/-- A lane's directory record in a bank; its port index is 256 plus the lane number (R92). -/
def State.dirAt (s : State) (b : Bank) (i : LaneId) : DirRecord :=
  DirRecord.ofBytes (s.tables.ram.readRecord b (256 + i.val))

/-! ### Records as bytes (R171 to R173) -/

/-- R171. -/
def WordRecord.bytes (r : WordRecord) : Vector Byte 4 :=
  #v[loByte r.value, hiByte r.value, r.tag,
    (1#1 ++ BitVec.ofNat 2 r.lane.val ++ BitVec.ofBool r.coasted ++ BitVec.ofBool r.verified ++ r.seq3 : BitVec 8)]

/-- The empty record of a word pop, four bytes of 0 (R109). -/
def emptyWord : Vector Byte 4 := Vector.replicate 4 0

def StartKind.code : StartKind → BitVec 2
  | .confirm => 1
  | .lock => 2
  | .coast => 3

def StartSlip.code : StartSlip → BitVec 2
  | .none => 0
  | .early => 1
  | .late => 2

def EndClass.code : EndClass → BitVec 3
  | .normal => 0
  | .short => 1
  | .long => 2
  | .unconfirmed => 3
  | .abandoned => 4

def CheckResult.code : CheckResult → BitVec 2
  | .noCheck => 0
  | .good => 1
  | .bad => 2
  | .unchecked => 3

def CycleState.code : CycleState → BitVec 2
  | .search => 0
  | .verify => 1
  | .lock => 2
  | .counted => 3

/-- R172. -/
def FrameRecord.bytes (r : FrameRecord) : Vector Byte 16 :=
  #v[(1#1 ++ r.endClass.code ++ r.kind.code ++ BitVec.ofNat 2 r.lane.val : BitVec 8),
    (BitVec.ofBool r.gap ++ BitVec.ofBool r.inverted ++ r.result.code ++ r.errors : BitVec 8),
    loByte r.seq, hiByte r.seq, r.cyclePos,
    (0#3 ++ r.slip.code ++ BitVec.ofBool r.overflow ++ r.cycleState.code : BitVec 8),
    byte48 r.timeTag 0, byte48 r.timeTag 1, byte48 r.timeTag 2, byte48 r.timeTag 3, byte48 r.timeTag 4,
    byte48 r.timeTag 5, r.delivered, r.queueLoss, r.withheld, r.discarded]

/-- Cause codes 1 to 17 (R147). -/
def Cause.code : Cause → Nat
  | .lockGained => 1
  | .lockLost => 2
  | .coastEntered => 3
  | .polaritySet => 4
  | .laneSilent => 5
  | .cycleLocked => 6
  | .cycleLost => 7
  | .checkBad => 8
  | .stageOverflow => 9
  | .queueThreshold => 10
  | .queueLoss => 11
  | .poolEmpty => 12
  | .recordLoss => 13
  | .swapDone => 14
  | .copyDone => 15
  | .tableRefused => 16
  | .configRefused => 17

/-- R173. -/
def AttnRecord.bytes (r : AttnRecord) : Vector Byte 5 :=
  #v[BitVec.ofNat 8 r.cause.code, r.source, r.count, loByte r.first, hiByte r.first]

/-! ### Sources (R147) -/

/-- The source byte of a lane. -/
def laneSource (i : LaneId) : Byte := BitVec.ofNat 8 i.val

/-- The source byte of a queue. -/
def queueSource (q : QueueId) : Byte := BitVec.ofNat 8 q.val

/-- The source byte of the device as a whole. -/
def deviceSource : Byte := 0xFF

end Sys2Proof.Machine
end

