-- ==== Sys2Proof/Machine/Flags.lean ====
section
/-! DEFINITION. The status bits and views that the part computes from its state: the lane and device status views, the
command status byte, the mode byte of a queue, and the output lines IRQ#, DRQ0 and DRQ1. -/

namespace Sys2Proof.Machine

/-- A lane runs while its lock state is SEARCH, CHECK, LOCK or COAST (01_lane_intake.md, introduction). -/
def LaneState.running (l : LaneState) : Bool := l.engine.lock != .off

/-- A lane whose bank in use differs from ACTIVE is swap pending (R93). -/
def State.swapPending (s : State) (i : LaneId) : Bool := (s.lane i).bankInUse != s.tables.active

/-- No lane is swap pending (R102). -/
def State.noLanePending (s : State) : Bool := (List.finRange 4).all fun i => !s.swapPending i

def LockState.code : LockState → BitVec 3
  | .off => 0
  | .search => 1
  | .check => 2
  | .lock => 3
  | .coast => 4

/-- LSTATn (R18, R167). -/
def State.lstat (s : State) (i : LaneId) : Byte :=
  BitVec.ofBool (s.swapPending i) ++ (s.lane i).tracker.state.code ++ BitVec.ofBool (s.lane i).intake.silent ++
    BitVec.ofBool ((s.lane i).intake.polarity == .inverted) ++ (s.lane i).engine.lock.code

/-- The attention list holds at least one record (R151, R163). -/
def State.attention (s : State) : Bool := !s.attn.list.isEmpty

/-- IRQ# is driven low while the attention list holds a record (R151). -/
def State.irqLow (s : State) : Bool := s.attention

/-- DSTAT (R163, R167). -/
def State.dstat (s : State) : Byte :=
  0#2 ++ BitVec.ofBool s.attention ++ BitVec.ofBool (s.queues.free == 0) ++ BitVec.ofBool s.tables.copyAborted ++
    BitVec.ofBool s.tables.copying ++ BitVec.ofBool s.tables.swapping ++ BitVec.ofBool (s.tables.active == .bank1)

def Reason.code : Reason → BitVec 5
  | .badCode => 1
  | .badArg => 2
  | .wrongState => 3
  | .busy => 4
  | .badProfile => 5

/-- CSTAT (R158, R167). -/
def CmdStatus.byte : CmdStatus → Byte
  | .noCommand => 0x00
  | .done => 0x20
  | .started => 0x40
  | .refused r => 3#3 ++ r.code

def QueueState.code : QueueState → BitVec 2
  | .disabled => 0
  | .opened => 1
  | .held => 2

/-- QMODE (R114, R168). -/
def Queue.modeByte (q : Queue) : Byte :=
  0#4 ++ BitVec.ofBool q.drain ++ BitVec.ofBool (q.policy == .dropOld) ++ q.state.code

/-- The queue calls for a DMA request: conditions 2 and 3 of R124. -/
def Queue.calls (q : Queue) : Bool :=
  q.state != .disabled && (decide (q.threshold ≤ q.depth) || (q.drain && decide (1 ≤ q.depth)))

/-- DRQn is asserted (R124). -/
def State.drq (s : State) (n : PortId) : Bool :=
  match (s.port n).bind with
  | none => false
  | some q => (s.queue q).calls

/-- DBINDn as it reads back (R124). -/
def DmaPort.bindByte (p : DmaPort) : Byte :=
  match p.bind with
  | none => 0x80
  | some q => BitVec.ofNat 8 q.val

end Sys2Proof.Machine
end

