-- ==== Sys2Proof/Machine/Ops.lean ====
section
/-! DEFINITION. The operations that every block shares: what a happening does while RESET# is low and what it drives on
the data lines, posting an attention, reporting a command, and a lane's taking the ACTIVE bank. -/

namespace Sys2Proof.Machine

/-! ### Happenings and the data lines (R154, R161) -/

/-- A happening that drives nothing. While RESET# is low it is not taken (R161). -/
def act (f : State → State) (s : State) : Host.Outcome State Fault Refusal :=
  if s.resetLow then .next { s with dataOut := none } else .next { f s with dataOut := none }

/-- A read strobe that the part answers with the byte `f` gives. While RESET# is low it returns 00h with no effect
(R161). -/
def answer (f : State → Byte × State) (s : State) : Host.Outcome State Fault Refusal :=
  if s.resetLow then .next { s with dataOut := some 0 } else .next { (f s).2 with dataOut := some (f s).1 }

/-! ### Posting (R148) -/

/-- The mask bit of a cause (R149). -/
def AttnList.admits (a : AttnList) (c : Cause) : Bool := a.masks.getLsbD (c.code - 1)

/-- Fold a posting into its listed pair, or append a new record at the tail (R148). -/
def foldPosting (c : Cause) (src : Byte) (now : BitVec 16) : List AttnRecord → List AttnRecord
  | [] => [{ cause := c, source := src, count := 1, first := now }]
  | r :: rs =>
    if r.cause = c ∧ r.source = src then { r with count := satInc r.count } :: rs
    else r :: foldPosting c src now rs

/-- A block posts a cause with a source. -/
def State.post (s : State) (c : Cause) (src : Byte) : State :=
  if s.attn.admits c then { s with attn.list := foldPosting c src (s.time.counter.extractLsb' 0 16) s.attn.list }
  else s

/-- A register refuses a write (R147, cause 17). -/
def State.refuseConfig (s : State) : State := s.post .configRefused deviceSource

/-! ### Commands (R157, R158) -/

/-- A CMD write of `code`, whose owner answers with a status and a state; CLAST and CSTAT report it. -/
def command (code : Byte) (owner : State → CmdStatus × State) (s : State) : State :=
  { (owner s).2 with clast := code, cstat := (owner s).1 }

/-- The lane argument: CARG, refused BAD_ARG above 3 (R157). -/
def withLane (f : LaneId → State → CmdStatus × State) (s : State) : CmdStatus × State :=
  if h : s.carg.toNat < 4 then f ⟨s.carg.toNat, h⟩ s else (.refused .badArg, s)

/-- The queue argument: CARG, refused BAD_ARG above 7 (R157). -/
def withQueue (f : QueueId → State → CmdStatus × State) (s : State) : CmdStatus × State :=
  if h : s.carg.toNat < 8 then f ⟨s.carg.toNat, h⟩ s else (.refused .badArg, s)

/-! ### The bank in use (R93, R102) -/

/-- A notice sets the lane's bank in use to ACTIVE. If it changes, and no lane now differs, the swap has ended: the
flag clears and SWAP_DONE is posted (R102). -/
def State.takeActive (s : State) (i : LaneId) : State :=
  if s.swapPending i then
    let t := s.mapLane i fun l => { l with bankInUse := s.tables.active }
    if t.noLanePending then { t with tables.swapping := false }.post .swapDone deviceSource else t
  else s

end Sys2Proof.Machine
end

