-- ==== Sys2Proof/Machine/Cycle.lean ====
section
/-! DEFINITION. The cycle tracker (03_cycle_tracking.md). -/

namespace Sys2Proof.Machine

/-- One on from a position, modulo the cycle length (R51, R52). -/
def nextPos (p : Profile) (last : Byte) : Byte := BitVec.ofNat 8 ((last.toNat + 1) % p.cycleLen)

/-- A search entry notice (R50). -/
def Tracker.searchEntry (p : Profile) (t : Tracker) : Tracker :=
  { t with state := if p.marked then .search else .counted, miss := 0 }

/-- The frame fields return to absent, unknown and none (R56). -/
def Tracker.closeFrame (t : Tracker) : Tracker :=
  { t with prediction := none, framePos := none, frameState := none }

/-- A frame start in counted mode (R51). -/
def Tracker.startCounted (p : Profile) (kind : StartKind) (t : Tracker) : Tracker :=
  let x : Byte := if kind = .confirm then 0 else nextPos p t.last
  { t with prediction := some x, framePos := some x, last := x, frameState := some .counted }

/-- A frame start in marked mode (R52). CY_COUNTED, which R60 keeps out of marked mode, is taken as CY_SEARCH (log entry
10). -/
def Tracker.startMarked (p : Profile) (t : Tracker) : Tracker :=
  match t.state with
  | .search => { t with prediction := none, framePos := none, frameState := some .search }
  | .verify => { t with prediction := some (nextPos p t.last), framePos := none, frameState := some .verify }
  | .lock =>
    { t with prediction := some (nextPos p t.last), framePos := some (nextPos p t.last), frameState := some .lock }
  | .counted => { t with prediction := none, framePos := none, frameState := some .search }

/-- A frame start notice at the cycle tracker (R51, R52). -/
def Tracker.startFrame (p : Profile) (kind : StartKind) (t : Tracker) : Tracker :=
  if p.marked then t.startMarked p else t.startCounted p kind

/-- The counter value of a word: its low B bits (R49). -/
def counterValue (p : Profile) (v : BitVec 16) : Nat := v.toNat % 2 ^ p.counterWidth

/-- What a counter value does in each cycle state, with the attention it posts (R53 to R55). -/
def Tracker.counter (p : Profile) (v : Nat) (t : Tracker) : Tracker × Option Cause :=
  match t.state with
  | .search => if v < p.cycleLen then ({ t with last := BitVec.ofNat 8 v, state := .verify }, none) else (t, none)
  | .verify =>
    if t.prediction = some (BitVec.ofNat 8 v) ∧ v < p.cycleLen then
      ({ t with last := BitVec.ofNat 8 v, state := .lock, miss := 0 }, some .cycleLocked)
    else if v < p.cycleLen then ({ t with last := BitVec.ofNat 8 v }, none)
    else ({ t with state := .search }, none)
  | .lock =>
    if t.prediction = some (BitVec.ofNat 8 v) ∧ v < p.cycleLen then
      ({ t with last := BitVec.ofNat 8 v, miss := 0 }, none)
    else if t.miss + 1 = 2 then
      ({ t with last := t.prediction.getD t.last, miss := 0, state := .search }, some .cycleLost)
    else ({ t with last := t.prediction.getD t.last, miss := t.miss + 1 }, none)
  | .counted => (t, none)

/-- The word notice at the cycle tracker: it acts on data word Cw in marked mode (R49, R33). -/
def State.trackWord (s : State) (i : LaneId) (x : Nat) (v : BitVec 16) : State :=
  let l := s.lane i
  let p := l.intake.profile
  if p.marked ∧ x = p.counterWord ∧ p.syncWords ≤ x then
    let r := l.tracker.counter p (counterValue p v)
    let t := s.setLane i { l with tracker := r.1 }
    match r.2 with
    | none => t
    | some c => t.post c (laneSource i)
  else s

end Sys2Proof.Machine
end

