-- ==== Sys2Proof/Machine/Queues.lean ====
section
/-! DEFINITION. The queue block (07_output_queues.md): appending, losing and popping word records, the queue registers,
the DMA ports and the queue commands. -/

namespace Sys2Proof.Machine

/-! ### Appending (R116 to R119) -/

/-- How the queue block answers a record that reaches it (R74). -/
inductive Answer where
  | appended
  | dropped
  | refused
  | discarded
  deriving DecidableEq, Repr

/-- A queue loses a record: the lost counter and QUEUE_LOSS (R117 to R119). -/
def State.loseWord (s : State) (q : QueueId) : State :=
  (s.setQueue q { s.queue q with lost := satInc (s.queue q).lost }).post .queueLoss (queueSource q)

/-- Append with room: steps 1 to 4 of R116. -/
def State.appendWord (s : State) (q : QueueId) (r : WordRecord) : State :=
  let v := { s.queue q with entries := (s.queue q).entries ++ [r] }
  let t : State := { s.setQueue q v with queues.free := s.queues.free - 1 }
  let t := if v.depth = v.threshold then t.post .queueThreshold (queueSource q) else t
  if t.queues.free = 0 then t.post .poolEmpty deviceSource else t

/-- A DROP_OLD append that evicts the head; `rest` are the entries behind it (R117). -/
def State.evictWord (s : State) (q : QueueId) (rest : List WordRecord) (r : WordRecord) : State :=
  (s.setQueue q { s.queue q with entries := rest ++ [r] }).loseWord q

/-- A word record is offered to its destination queue (R116 to R118). -/
def State.offerWord (s : State) (q : QueueId) (r : WordRecord) : Answer × State :=
  match (s.queue q).state with
  | .disabled => (.discarded, s)
  | .held => (.refused, s.loseWord q)
  | .opened =>
    if (s.queue q).depth < (s.queue q).quota ∧ 0 < s.queues.free then (.appended, s.appendWord q r)
    else
      match (s.queue q).policy, (s.queue q).entries with
      | .dropOld, _ :: rest => (.appended, s.evictWord q rest r)
      | .dropOld, [] => (.dropped, s.loseWord q)
      | .dropNew, _ => (.dropped, s.loseWord q)

/-! ### Popping (R120 to R123) -/

/-- A pop: the bytes that the port's holding register takes, and the state after it (R120). -/
def State.popQueue (s : State) (q : QueueId) : Vector Byte 4 × State :=
  match (s.queue q).state, (s.queue q).entries with
  | .disabled, _ => (emptyWord, s)
  | _, [] => (emptyWord, s)
  | _, r :: rest =>
    (r.bytes, { s.setQueue q { s.queue q with entries := rest } with queues.free := s.queues.free + 1 })

/-- A read of QDATAk; k = 0 pops the queue that QSEL names (R121). -/
def readQdata (k : Fin 4) (s : State) : Byte × State :=
  if k = 0 then
    let p := s.popQueue s.queues.qsel
    (p.1[0], { p.2 with queues.hostHold := p.1 })
  else (s.queues.hostHold[k], s)

/-- A DMA port pops its bound queue, or takes the empty record with no binding (R122, R123). -/
def State.popPort (s : State) (n : PortId) : State :=
  match (s.port n).bind with
  | none => s.setPort n { s.port n with hold := emptyWord }
  | some q => (s.popQueue q).2.setPort n { s.port n with hold := (s.popQueue q).1 }

/-- An addressed read of byte k of DDATAn (R122). -/
def readDdata (n : PortId) (k : Fin 4) (s : State) : Byte × State :=
  let t := if k = 0 then s.popPort n else s
  ((t.port n).hold[k], t.setPort n { t.port n with idx := nextIdx k })

/-- A DMA acknowledge read of port n, at its byte index (R123). -/
def readAck (n : PortId) (s : State) : Byte × State :=
  let k := (s.port n).idx
  let t := if k = 0 then s.popPort n else s
  ((t.port n).hold[k], t.setPort n { t.port n with idx := nextIdx k })

/-! ### Registers (R111 to R115, R124) -/

/-- R111. -/
def writeQsel (v : Byte) (s : State) : State :=
  if h : v.toNat < 8 then { s with queues.qsel := ⟨v.toNat, h⟩ } else s.refuseConfig

/-- The queue that QSEL names. -/
def State.selQueue (s : State) : Queue := s.queue s.queues.qsel

def State.setSelQueue (s : State) (v : Queue) : State := s.setQueue s.queues.qsel v

/-- The 11-bit value formed at QQUOTA and QTHR: bits 2-0 of the high byte, and the holding place (R112). -/
def formed11 (hi lo : Byte) : Nat := (hi.extractLsb' 0 3 ++ lo).toNat

/-- R112. -/
def writeQquota (h : Half) (v : Byte) (s : State) : State :=
  match h with
  | .low => { s with queues.quotaLow := v }
  | .high =>
    if s.selQueue.state = .disabled ∧ formed11 v s.queues.quotaLow ≤ Config.poolSlots then
      s.setSelQueue { s.selQueue with quota := formed11 v s.queues.quotaLow }
    else s.refuseConfig

/-- R113. -/
def writeQthr (h : Half) (v : Byte) (s : State) : State :=
  match h with
  | .low => { s with queues.thrLow := v }
  | .high =>
    if 1 ≤ formed11 v s.queues.thrLow ∧ formed11 v s.queues.thrLow ≤ Config.poolSlots then
      s.setSelQueue { s.selQueue with threshold := formed11 v s.queues.thrLow }
    else s.refuseConfig

/-- The policy field of a QMODE byte (R168). -/
def policyOf (v : Byte) : Policy := if v.getLsbD 2 then .dropOld else .dropNew

/-- R114. -/
def writeQmode (v : Byte) (s : State) : State :=
  if s.selQueue.state = .disabled ∨ policyOf v = s.selQueue.policy then
    s.setSelQueue { s.selQueue with policy := policyOf v, drain := v.getLsbD 3 }
  else s.refuseConfig

/-- R115. -/
def readQdepth (h : Half) (s : State) : Byte × State :=
  match h with
  | .low =>
    let d := BitVec.ofNat 16 s.selQueue.depth
    (loByte d, { s with queues.depthLatch := d })
  | .high => (hiByte s.queues.depthLatch, s)

/-- R115, R119. -/
def readQlost (h : Half) (s : State) : Byte × State :=
  match h with
  | .low =>
    let d := s.selQueue.lost
    (loByte d, { s.setSelQueue { s.selQueue with lost := 0 } with queues.lostLatch := d })
  | .high => (hiByte s.queues.lostLatch, s)

/-- R115. -/
def readPoolfree (h : Half) (s : State) : Byte × State :=
  match h with
  | .low =>
    let d := BitVec.ofNat 16 s.queues.free
    (loByte d, { s with queues.freeLatch := d })
  | .high => (hiByte s.queues.freeLatch, s)

/-- A write to DBINDn (R124). -/
def writeDbind (n : PortId) (v : Byte) (s : State) : State :=
  if h : v.toNat < 8 then s.setPort n { s.port n with bind := some ⟨v.toNat, h⟩, idx := 0 }
  else if v = 0x80 then s.setPort n { s.port n with bind := none, idx := 0 }
  else s.refuseConfig

/-! ### Queue commands (R125 to R127) -/

/-- R125. -/
def openQueue (q : QueueId) (s : State) : CmdStatus × State :=
  (.done, s.setQueue q { s.queue q with state := .opened })

/-- R126. -/
def holdQueue (q : QueueId) (s : State) : CmdStatus × State :=
  match (s.queue q).state with
  | .opened => (.done, s.setQueue q { s.queue q with state := .held })
  | .held => (.done, s)
  | .disabled => (.refused .wrongState, s)

/-- R127. -/
def disableQueue (q : QueueId) (s : State) : CmdStatus × State :=
  (.done, { s.setQueue q { s.queue q with state := .disabled, entries := [] } with
    queues.free := s.queues.free + (s.queue q).depth })

/-- SOFT_RESET at one queue: emptied, lost counter 0, settings kept (R130). -/
def Queue.softReset (q : Queue) : Queue := { q with entries := [], lost := 0 }

/-- SOFT_RESET at one DMA port (R130). -/
def DmaPort.softReset (p : DmaPort) : DmaPort := { p with hold := emptyWord, idx := 0 }

/-- SOFT_RESET at the queue block (R130). -/
def QueueBlock.softReset (b : QueueBlock) : QueueBlock :=
  { b with free := Config.poolSlots, queue := b.queue.map Queue.softReset, hostHold := emptyWord,
           port := b.port.map DmaPort.softReset }

end Sys2Proof.Machine
end

