-- ==== Sys2Proof/Machine/Delivery.lean ====
section
/-! DEFINITION. The frame check and staging block (05_frame_check_and_staged_delivery.md) and the word selector
(04_word_selection.md): what a data word does on its way to the queues. -/

namespace Sys2Proof.Machine

/-! ### Delivery and its counts (R74) -/

/-- The selector counts an answer against the frame in progress (R74). -/
def Selector.countAnswer (a : Answer) (x : Selector) : Selector :=
  match a with
  | .appended => { x with delivered := satInc x.delivered }
  | .dropped => { x with queueLoss := satInc x.queueLoss }
  | .refused => { x with queueLoss := satInc x.queueLoss }
  | .discarded => { x with queueLoss := satInc x.queueLoss }

/-- A word record of lane `i` reaches the queue block, and the lane counts the answer (R71, R74). -/
def State.deliver (s : State) (i : LaneId) (q : QueueId) (r : WordRecord) : State :=
  (s.offerWord q r).2.mapLane i fun l => { l with selector := l.selector.countAnswer (s.offerWord q r).1 }

/-! ### Check register (R81) -/

/-- One bit into the check register. -/
def crcBit (r : BitVec 16) (b : Bool) : BitVec 16 :=
  if r.getLsbD 15 != b then (r <<< 1) ^^^ 0x1021 else r <<< 1

/-- The low `n` bits of a word, most significant first. -/
def crcBits (v : BitVec 16) : Nat → BitVec 16 → BitVec 16
  | 0, r => r
  | n + 1, r => crcBits v n (crcBit r (v.getLsbD n))

/-! ### The check block (R79 to R88) -/

/-- A frame start at the check block (R79). -/
def CheckBlock.startFrame (p : Profile) (_ : CheckBlock) : CheckBlock where
  reg := p.seed
  state := if p.checkWord = 0 then some .noCheck else some .pending
  staging := []
  overflow := false
  discarded := 0

/-- Emptied without a record: the frame check state, list, flag and count (R88, and the end of R87). -/
def CheckBlock.clear (c : CheckBlock) : CheckBlock :=
  { c with state := none, staging := [], overflow := false, discarded := 0 }

/-- Discard every staged record and count it (R85). -/
def CheckBlock.discardAll (c : CheckBlock) : CheckBlock :=
  { c with staging := [], discarded := satAdd8 c.discarded c.staging.length }

/-- The check result handed over at a frame's end (R87). -/
def CheckBlock.result (c : CheckBlock) : CheckResult :=
  match c.state with
  | some .good => .good
  | some .bad => .bad
  | some .pending => .unchecked
  | some .noCheck => .noCheck
  | none => .noCheck

/-- The block as it stands when the fields are handed over: staged records of a PENDING frame are discarded and
counted first (R87). -/
def CheckBlock.settle (c : CheckBlock) : CheckBlock :=
  if c.state = some .pending then c.discardAll else c

/-- A record joins the staging list, or is discarded on a full list (R83). -/
def State.stageWord (s : State) (i : LaneId) (x : Staged) : State :=
  let c := (s.lane i).check
  if c.staging.length < Config.stagingWords then
    s.mapLane i fun l => { l with check := { c with staging := c.staging ++ [x] } }
  else
    let t := s.mapLane i fun l => { l with check := { c with discarded := satInc c.discarded, overflow := true } }
    if c.overflow then t else t.post .stageOverflow (laneSource i)

/-- The batch reaches the queue block, record by record, each marked verified (R84). -/
def State.releaseAll (s : State) (i : LaneId) : List Staged → State
  | [] => s
  | x :: xs => (s.deliver i x.queue { x.word with verified := true }).releaseAll i xs

/-- The comparison of R82: the low W bits of the register against the check word. -/
def checkMatches (p : Profile) (reg v : BitVec 16) : Bool := reg.toNat % 2 ^ p.wordLen == v.toNat

/-- The check word: the comparison, then the staging list is released or discarded (R82, R84, R85). -/
def State.compareCheck (s : State) (i : LaneId) (v : BitVec 16) : State :=
  let l := s.lane i
  let c := l.check
  if checkMatches l.intake.profile c.reg v then
    if c.overflow then s.setLane i { l with check := { c with state := some .good }.discardAll }
    else (s.setLane i { l with check := { c with state := some .good, staging := [] } }).releaseAll i c.staging
  else
    (s.setLane i { l with check := { c with state := some .bad }.discardAll }).post .checkBad (laneSource i)

/-- The word notice at the check block (R80). -/
def State.checkWordNotice (s : State) (i : LaneId) (x : Nat) (v : BitVec 16) : State :=
  let l := s.lane i
  let p := l.intake.profile
  if p.checkWord = 0 then s
  else if p.syncWords ≤ x ∧ x < p.checkWord then
    s.setLane i { l with check := { l.check with reg := crcBits v p.wordLen l.check.reg } }
  else if x = p.checkWord ∧ l.check.state = some .pending then s.compareCheck i v
  else s

/-! ### The word selector (R62 to R75) -/

/-- The segment end that a directory record gives (R63). -/
def DirRecord.segStop (d : DirRecord) : Option Nat :=
  if 1 ≤ d.count ∧ d.base.toNat + d.count ≤ Config.bankEntries then some (d.base.toNat + d.count) else none

/-- A frame start at the selector: bank, segment, cursor, kind, seq3, counts (R62). -/
def Selector.startFrame (b : Bank) (d : DirRecord) (kind : StartKind) (seq : BitVec 16) (_ : Selector) : Selector where
  isOpen := true
  bank := b
  segBase := d.base
  segStop := d.segStop
  cursor := d.base.toNat
  kind := some kind
  seq3 := seq.extractLsb' 0 3
  delivered := 0
  queueLoss := 0
  withheld := 0

/-- LANE_START and LANE_STOP, and both resets: not open, no segment, no kind, counts 0 (R61). -/
def Selector.clear (x : Selector) : Selector :=
  { x with isOpen := false, segStop := none, kind := none, delivered := 0, queueLoss := 0, withheld := 0 }

/-- What a filter decides about an entry's word (R69, R70). -/
inductive Verdict where
  | selected
  | withheld
  | passed
  deriving DecidableEq, Repr

/-- EVERY selects: k at least 1, and c modulo k equals a (R69). -/
def everySelects (k a c : Byte) : Bool := k != 0 && c.toNat % k.toNat == a.toNat

/-- The decision for the cycle position that the frame offers (R69, R70). -/
def SelEntry.verdict (e : SelEntry) (pos : Option Byte) : Verdict :=
  match e.mode with
  | .all => .selected
  | .parked => .passed
  | .atPos =>
    match pos with
    | none => .withheld
    | some c => if c = e.a then .selected else .passed
  | .every =>
    match pos with
    | none => .withheld
    | some c => if everySelects e.k e.a c then .selected else .passed

/-- The word record of a selected entry (R72). -/
def buildRecord (i : LaneId) (x : Selector) (e : SelEntry) (v : BitVec 16) : WordRecord where
  value := v
  tag := e.tag
  lane := i
  coasted := x.kind == some .coast
  verified := false
  seq3 := x.seq3

/-- A gated record before the check word is staged, any other goes direct (R71). -/
def sentStaged (p : Profile) (e : SelEntry) (x : Nat) : Bool :=
  p.checkWord != 0 && e.gated && decide (x < p.checkWord)

/-- Evaluation of a valid entry that names the word (R69 to R72). -/
def State.evaluateEntry (s : State) (i : LaneId) (x : Nat) (v : BitVec 16) (e : SelEntry) : State :=
  let l := s.lane i
  match e.verdict l.tracker.framePos with
  | .passed => s
  | .withheld => s.setLane i { l with selector := { l.selector with withheld := satInc l.selector.withheld } }
  | .selected =>
    let r := buildRecord i l.selector e v
    if sentStaged l.intake.profile e x then s.stageWord i { queue := e.queue, word := r } else s.deliver i e.queue r

/-- The cursor advances by 1. -/
def State.advanceCursor (s : State) (i : LaneId) : State :=
  s.mapLane i fun l => { l with selector := { l.selector with cursor := l.selector.cursor + 1 } }

/-- The segment walk for data word `x`, over at most `n` entries from the cursor (R67). -/
def State.walk (i : LaneId) (x : Nat) (v : BitVec 16) : Nat → State → State
  | 0, s => s
  | n + 1, s =>
    let e := s.entryAt (s.lane i).selector.bank (s.lane i).selector.cursor
    if e.valid = false ∨ e.position < x then State.walk i x v n (s.advanceCursor i)
    else if e.position = x then State.walk i x v n ((s.evaluateEntry i x v e).advanceCursor i)
    else s

/-- The word notice at the selector: data words S to N-1 while it is open (R66, R67). -/
def State.selectWord (s : State) (i : LaneId) (x : Nat) (v : BitVec 16) : State :=
  let l := s.lane i
  let p := l.intake.profile
  if l.selector.isOpen ∧ p.syncWords ≤ x ∧ x < p.frameWords then
    match l.selector.segStop with
    | none => s
    | some e => State.walk i x v (e - l.selector.cursor) s
  else s

end Sys2Proof.Machine
end

