-- ==== Sys2Proof/Machine/Records.lean ====
section
/-! DEFINITION. The frame record queue (08_frame_records.md). -/

namespace Sys2Proof.Machine

/-- The EXCEPTIONS conditions (R132). -/
def FrameRecord.exceptional (r : FrameRecord) : Bool :=
  r.kind == .coast || r.slip != .none || r.endClass != .normal || r.result == .bad || r.result == .unchecked ||
  r.overflow || r.queueLoss != 0 || r.withheld != 0 || r.discarded != 0

/-- Whether a record mode offers a frame's record (R132). -/
def modeOffers (mode : BitVec 2) (r : FrameRecord) : Bool :=
  match mode.toNat with
  | 0 => false
  | 1 => r.exceptional
  | _ => true

/-- An offered record is stored with the pending gap, or dropped (R134, R135). -/
def State.storeRecord (s : State) (r : FrameRecord) : State :=
  if s.records.list.length < Config.recordSlots then
    { s with records.list := s.records.list ++ [{ r with gap := s.records.gap }], records.gap := false }
  else { s with records.loss := satInc s.records.loss, records.gap := true }.post .recordLoss deviceSource

/-- The frame record queue receives a frame's end under the lane's record mode (R132). -/
def State.offerRecord (s : State) (mode : BitVec 2) (r : FrameRecord) : State :=
  if modeOffers mode r then s.storeRecord r else s

/-- A read of RDATAk; k = 0 pops the oldest record (R136). -/
def readRdata (k : Fin 16) (s : State) : Byte × State :=
  if k = 0 then
    match s.records.list with
    | [] => (0, { s with records.hold := Vector.replicate 16 0 })
    | r :: rest => (r.bytes[0], { s with records.list := rest, records.hold := r.bytes })
  else (s.records.hold[k], s)

/-- A read of RLOSS (R137). -/
def readRloss (s : State) : Byte × State := (s.records.loss, { s with records.loss := 0 })

/-- RECORDS_FLUSH (R138). -/
def flushRecords (s : State) : CmdStatus × State :=
  (.done, { s with records.list := [], records.gap := false })

/-- SOFT_RESET at the frame record queue (R139). -/
def RecordQueue.softReset (_ : RecordQueue) : RecordQueue := RecordQueue.reset

end Sys2Proof.Machine
end

