-- ==== Sys2Proof/Machine/Lock.lean ====
section
/-! DEFINITION. The frame lock engine (02_frame_lock.md): windows and mismatches, frame starts and ends, sync
evaluations, slips, and word slicing. Each function is one piece of the work that a single bit does, in the order that
R32 and R73 give. -/

namespace Sys2Proof.Machine

/-! ### Windows (R2, R21) -/

/-- The last `n` received bits, newest first. -/
def Intake.received (x : Intake) (n : Nat) : List Bool := (x.hist.take n).map (·.recv)

/-- The last `n` corrected bits, newest first: the sync window. -/
def Intake.corrected (x : Intake) (n : Nat) : List Bool := (x.hist.take n).map (·.corr)

/-- The `n` corrected bits that precede the most recent one: the early window. -/
def Intake.earlyCorrected (x : Intake) (n : Nat) : List Bool := ((x.hist.drop 1).take n).map (·.corr)

/-- Compared bits, from pattern bit `k` on, in which a window (newest first) differs from a pattern (R21). -/
def countMismatches (p m : BitVec 32) : Nat → List Bool → Nat
  | _, [] => 0
  | k, b :: bs => (if m.getLsbD k && b != p.getLsbD k then 1 else 0) + countMismatches p m (k + 1) bs

/-- Mismatches of a window with P. -/
def Profile.mismatches (p : Profile) (w : List Bool) : Nat := countMismatches p.pattern p.mask 0 w

/-- Mismatches of a window with the complement of P. -/
def Profile.complementMismatches (p : Profile) (w : List Bool) : Nat := countMismatches (~~~p.pattern) p.mask 0 w

/-- The number whose least significant bit is the newest bit (R33). -/
def bitsValue : List Bool → Nat
  | [] => 0
  | b :: bs => b.toNat + 2 * bitsValue bs

/-- The word of bits newest first. -/
def wordOf (w : List Bool) : BitVec 16 := BitVec.ofNat 16 (bitsValue w)

/-- The value of sync word `j` of the window a sync was taken from (R34). -/
def Profile.syncWordValue (p : Profile) (w : List Bool) (j : Nat) : BitVec 16 :=
  wordOf ((w.drop (p.syncLen - (j + 1) * p.wordLen)).take p.wordLen)

/-! ### Word notices (R33, R34, R73) -/

/-- A word notice: cycle tracker, then check block, then word selector (R73). -/
def State.wordNotice (s : State) (i : LaneId) (x : Nat) (v : BitVec 16) : State :=
  ((s.trackWord i x v).checkWordNotice i x v).selectWord i x v

/-- The notices of a frame's sync words, in order (R34). -/
def State.syncNotices (s : State) (i : LaneId) (w : List Bool) : State :=
  (List.range (s.lane i).intake.profile.syncWords).foldl
    (fun t j => t.wordNotice i j ((s.lane i).intake.profile.syncWordValue w j)) s

/-! ### Frame start and frame end (R35 to R39) -/

/-- Sync errors, capped at 15 (R31). -/
def capErrors (n : Nat) : BitVec 4 := BitVec.ofNat 4 (min 15 n)

/-- The fields of a new frame (R35). -/
def State.newFrame (s : State) (i : LaneId) (kind : StartKind) (slip : StartSlip) (errors : Nat) : Frame where
  kind := kind
  slip := slip
  errors := capErrors errors
  timeTag := s.time.counter
  seq := (s.lane i).engine.seq

/-- A frame start: the frame in progress is created and the partners act on the notice (R35, R36, R51, R52, R62, R79),
then the notices of the sync words follow. -/
def State.startFrame (s : State) (i : LaneId) (kind : StartKind) (slip : StartSlip) (w : List Bool) : State :=
  let l := s.lane i
  let p := l.intake.profile
  (s.setLane i { l with
    engine := { l.engine with frame := some (s.newFrame i kind slip (p.mismatches w)), seq := l.engine.seq + 1 },
    tracker := l.tracker.startFrame p kind,
    selector := l.selector.startFrame l.bankInUse (s.dirAt l.bankInUse i) kind l.engine.seq,
    check := l.check.startFrame p }).syncNotices i w

/-- The record that a frame's end builds (R133). The gap field is set when it is stored (R134). -/
def LaneState.endRecord (l : LaneState) (i : LaneId) (f : Frame) (e : EndClass) : FrameRecord where
  lane := i
  kind := f.kind
  slip := f.slip
  endClass := e
  errors := f.errors
  inverted := l.intake.polarity == .inverted
  seq := f.seq
  timeTag := f.timeTag
  cyclePos := l.tracker.framePos.getD 255
  cycleState := l.tracker.frameState.getD .search
  delivered := l.selector.delivered
  queueLoss := l.selector.queueLoss
  withheld := l.selector.withheld
  result := l.check.result
  overflow := l.check.overflow
  discarded := l.check.settle.discarded
  gap := false

/-- The lane once a frame's end has been taken by every partner (R38, R56, R75, R87). -/
def LaneState.closeFrame (l : LaneState) : LaneState :=
  { l with engine := { l.engine with frame := none },
           tracker := l.tracker.closeFrame,
           selector := { l.selector with isOpen := false },
           check := l.check.clear }

/-- A frame end or frame abandoned notice (R38, R39). -/
def State.endFrame (s : State) (i : LaneId) (e : EndClass) : State :=
  let l := s.lane i
  match l.engine.frame with
  | none => s
  | some f => (s.setLane i l.closeFrame).offerRecord l.intake.profile.recordMode (l.endRecord i f e)

/-! ### Entry to SEARCH (R20, R40) -/

/-- The engine enters SEARCH: counts and position 0, late test cancelled (R20, R40). -/
def Engine.toSearch (x : Engine) : Engine :=
  { x with lock := .search, good := 0, bad := 0, bitPos := 0, late := none }

/-- The search entry notice: the cycle tracker, then the table store (R40, R50, R93). -/
def State.searchNotice (s : State) (i : LaneId) : State :=
  (s.mapLane i fun l => { l with tracker := l.tracker.searchEntry l.intake.profile }).takeActive i

/-- The lane enters SEARCH and sends the notice. -/
def State.enterSearch (s : State) (i : LaneId) : State :=
  (s.mapLane i fun l => { l with engine := l.engine.toSearch }).searchNotice i

/-- A sync evaluation that ends in SEARCH: the counts (step 3), the evaluation notice, then the search entry notice
(step 4 of R32). -/
def State.failToSearch (s : State) (i : LaneId) : State :=
  ((s.mapLane i fun l => { l with engine := l.engine.toSearch }).takeActive i).searchNotice i

/-! ### Search (R22, R23) -/

/-- What a search test of the received window finds: the polarity that a match sets (R22). -/
def Profile.searchTest (p : Profile) (w : List Bool) : Option Polarity :=
  let plain := decide (p.mismatches w ≤ p.searchTol)
  let compl := decide (p.complementMismatches w ≤ p.searchTol)
  match p.polarityMode.toNat with
  | 0 => if plain then some .normal else none
  | 1 => if compl then some .inverted else none
  | 2 => if plain then some .normal else if compl then some .inverted else none
  | _ => none

/-- A bit corrected under a polarity (R1, R3). -/
def correct (q : Polarity) (b : Bool) : Bool :=
  match q with
  | .normal => b
  | .inverted => !b

/-- Set the polarity and rebuild the corrected history under it (R3). -/
def Intake.setPolarity (q : Polarity) (x : Intake) : Intake :=
  { x with polarity := q, hist := x.hist.map fun h => { h with corr := correct q h.recv } }

/-- A search match aligns the lane (R23). -/
def State.searchMatch (s : State) (i : LaneId) (q : Polarity) : State :=
  let l := s.lane i
  let e : Engine :=
    { l.engine with bitPos := l.intake.profile.syncLen - 1, good := 0, bad := 0, lock := .check }
  if l.intake.polarity = q then s.setLane i { l with engine := e }
  else (s.setLane i { l with engine := e, intake := l.intake.setPolarity q }).post .polaritySet (laneSource i)

/-- The search test that follows a bit in SEARCH, if the window exists (R22). -/
def State.searchBit (s : State) (i : LaneId) : State :=
  let x := (s.lane i).intake
  if x.profile.syncLen ≤ x.hist.length then
    match x.profile.searchTest (x.received x.profile.syncLen) with
    | none => s
    | some q => s.searchMatch i q
  else s

/-! ### Sync evaluations (R24 to R32) -/

/-- The bit position after the next bit (R24). -/
def nextBitPos (p : Profile) (x : Nat) : Nat := if x + 1 < p.frameBits then x + 1 else 0

def State.advanceBit (s : State) (i : LaneId) : State :=
  s.mapLane i fun l => { l with engine := { l.engine with bitPos := nextBitPos l.intake.profile l.engine.bitPos } }

/-- The bit just taken has position L-1: the expected end of a sync (R24). -/
def LaneState.atSyncEnd (l : LaneState) : Bool := l.engine.bitPos + 1 == l.intake.profile.syncLen

/-- The exact window exists and is within a tolerance. -/
def Intake.exactWithin (x : Intake) (tol : Nat) : Bool :=
  decide (x.profile.syncLen ≤ x.hist.length) &&
    decide (x.profile.mismatches (x.corrected x.profile.syncLen) ≤ tol)

/-- The early window exists and is within a tolerance. -/
def Intake.earlyWithin (x : Intake) (tol : Nat) : Bool :=
  decide (x.profile.syncLen + 1 ≤ x.hist.length) &&
    decide (x.profile.mismatches (x.earlyCorrected x.profile.syncLen) ≤ tol)

/-- A good evaluation in CHECK that reaches C: the lane enters LOCK (R25, R32). -/
def State.gainLock (s : State) (i : LaneId) : State :=
  let x := (s.lane i).intake
  let t := s.mapLane i fun l => { l with engine := { l.engine with good := l.engine.good + 1, bad := 0, lock := .lock } }
  ((t.takeActive i).startFrame i .confirm .none (x.corrected x.profile.syncLen)).post .lockGained (laneSource i)

/-- A sync evaluation in CHECK (R25). -/
def State.evaluateCheck (s : State) (i : LaneId) : State :=
  let l := s.lane i
  let p := l.intake.profile
  if l.intake.exactWithin p.lockTol then
    if p.checkCount ≤ l.engine.good + 1 then s.gainLock i
    else (s.mapLane i fun l => { l with engine := { l.engine with good := l.engine.good + 1 } }).takeActive i
  else s.failToSearch i

/-- The end class of the ending frame when a candidate is accepted (R38). -/
def StartSlip.endClass : StartSlip → EndClass
  | .none => .normal
  | .early => .short
  | .late => .long

/-- Step 1 of R32 for an accepted candidate: the position and the slip counter (R28, R6); a late test is over. -/
def LaneState.acceptSlip (c : StartSlip) (l : LaneState) : LaneState :=
  match c with
  | .none => { l with engine := { l.engine with late := none } }
  | .early =>
    { l with engine := { l.engine with late := none, bitPos := l.intake.profile.syncLen },
             intake := { l.intake with slip := satInc l.intake.slip } }
  | .late =>
    { l with engine := { l.engine with late := none, bitPos := l.intake.profile.syncLen - 1 },
             intake := { l.intake with slip := satInc l.intake.slip } }

/-- A good evaluation in LOCK or COAST, by the candidate `c` whose window is `w` (R29, R30, R32). -/
def State.acceptSync (s : State) (i : LaneId) (c : StartSlip) (w : List Bool) : State :=
  let t := (s.mapLane i (LaneState.acceptSlip c)).endFrame i c.endClass
  let t := t.mapLane i fun l => { l with engine := { l.engine with lock := .lock, bad := 0 } }
  (t.takeActive i).startFrame i .lock c w

/-- The bad count after a bad evaluation: 1 from LOCK, one more from COAST (R29, R30). -/
def Engine.badNext (x : Engine) : Nat := if x.lock = .lock then 1 else x.bad + 1

/-- A bad evaluation in LOCK or COAST; `w` is the exact window (R29, R30, R32). -/
def State.rejectSync (s : State) (i : LaneId) (w : List Bool) : State :=
  let l := s.lane i
  let bad := l.engine.badNext
  let t := (s.mapLane i fun l => { l with engine := { l.engine with late := none } }).endFrame i .unconfirmed
  if bad ≤ l.intake.profile.coastLimit then
    let t := t.mapLane i fun l => { l with engine := { l.engine with lock := .coast, bad := bad } }
    let t := (t.takeActive i).startFrame i .coast .none w
    if l.engine.lock = .lock then t.post .coastEntered (laneSource i) else t
  else (t.failToSearch i).post .lockLost (laneSource i)

/-- A sync evaluation in LOCK or COAST on its evaluation bit: exact, then early, then a pending late test (R26). -/
def State.evaluateLock (s : State) (i : LaneId) : State :=
  let x := (s.lane i).intake
  let p := x.profile
  if x.exactWithin p.lockTol then s.acceptSync i .none (x.corrected p.syncLen)
  else if p.slipWindow then
    if x.earlyWithin p.lockTol then s.acceptSync i .early (x.earlyCorrected p.syncLen)
    else s.mapLane i fun l => { l with engine := { l.engine with late := some p.lockTol } }
  else s.rejectSync i (x.corrected p.syncLen)

/-- The bit that completes a late test: the late window ends at it, and the exact window one bit before (R27, R31). -/
def State.completeLate (s : State) (i : LaneId) (tol : Nat) : State :=
  let x := (s.lane i).intake
  if x.exactWithin tol then s.acceptSync i .late (x.corrected x.profile.syncLen)
  else s.rejectSync i (x.earlyCorrected x.profile.syncLen)

/-! ### Words (R33) -/

/-- The data word that the bit just taken completes (R33). -/
def LaneState.completedWord (l : LaneState) : Option Nat :=
  let p := l.intake.profile
  let x := (l.engine.bitPos + 1) / p.wordLen - 1
  if (l.engine.bitPos + 1) % p.wordLen = 0 ∧ p.syncWords ≤ x ∧ x < p.frameWords then some x else none

/-- The word notice of a data word completed while a delivered frame is in progress (R33). -/
def State.sliceWord (s : State) (i : LaneId) : State :=
  let l := s.lane i
  match l.engine.frame, l.completedWord with
  | some _, some x => s.wordNotice i x (wordOf (l.intake.corrected l.intake.profile.wordLen))
  | _, _ => s

/-! ### One bit at the engine (R24, R27, R33) -/

/-- A bit in CHECK. -/
def State.checkBit (s : State) (i : LaneId) : State :=
  let t := s.advanceBit i
  if (t.lane i).atSyncEnd then t.evaluateCheck i else t

/-- A bit in LOCK or COAST. -/
def State.lockBit (s : State) (i : LaneId) : State :=
  let t := s.advanceBit i
  match (s.lane i).engine.late with
  | some tol => t.completeLate i tol
  | none => if (t.lane i).atSyncEnd then t.evaluateLock i else t.sliceWord i

/-- The lock engine's work on a bit that the intake hands over. -/
def State.engineBit (s : State) (i : LaneId) : State :=
  match (s.lane i).engine.lock with
  | .off => s
  | .search => s.searchBit i
  | .check => s.checkBit i
  | .lock => s.lockBit i
  | .coast => s.lockBit i

end Sys2Proof.Machine
end

