-- ==== Sys2Proof/Machine/TimeAttn.lean ====
section
/-! DEFINITION. The time base and the host's side of the attention list (09_time_base_and_attention_list.md). Ticks are
in Intake.lean, since a tick reaches the lanes; posting is in Ops.lean. -/

namespace Sys2Proof.Machine

/-- A read of TIMEk (R144). -/
def readTime (k : Fin 6) (s : State) : Byte × State :=
  if k = 0 then
    if s.time.waiting then (byte48 s.time.latch 0, { s with time.waiting := false })
    else (byte48 s.time.counter 0, { s with time.latch := s.time.counter })
  else (byte48 s.time.latch k.val, s)

/-- A write of TIMEk: byte k of the preset (R146). -/
def writeTime (k : Fin 6) (v : Byte) (s : State) : State :=
  { s with time.preset := s.time.preset.set k v }

/-- TIME_LATCH (R145). -/
def latchTime (s : State) : CmdStatus × State :=
  (.done, { s with time.latch := s.time.counter, time.waiting := true })

/-- TIME_LOAD (R146). -/
def loadTime (s : State) : CmdStatus × State :=
  (.done, { s with time.counter := join48 s.time.preset })

/-- A read of ADATAk; k = 0 pops the head of the list (R150). -/
def readAdata (k : Fin 5) (s : State) : Byte × State :=
  if k = 0 then
    match s.attn.list with
    | [] => (0, { s with attn.hold := Vector.replicate 5 0 })
    | r :: rest => (r.bytes[0], { s with attn.list := rest, attn.hold := r.bytes })
  else (s.attn.hold[k], s)

/-- AMASKk as it reads back (R149). -/
def State.maskByte (s : State) (k : Fin 3) : Byte := (s.attn.masks.setWidth 24).extractLsb' (8 * k.val) 8

/-- A write of AMASKk; only bit 0 of AMASK2 is stored (R149). -/
def writeAmask (k : Fin 3) (v : Byte) (s : State) : State :=
  let m : Fin 3 → Byte := fun j => if j = k then v else s.maskByte j
  { s with attn.masks := ((m 2 ++ m 1 ++ m 0 : BitVec 24)).setWidth 17 }

/-- SOFT_RESET at the attention list (R153). -/
def AttnList.softReset (a : AttnList) : AttnList := { a with list := [], hold := Vector.replicate 5 0 }

end Sys2Proof.Machine
end

