-- ==== Sys2Proof/Machine/Intake.lean ====
section
/-! DEFINITION. The lane intake (01_lane_intake.md): bits, ticks and silence, the profile port, and LANE_START,
LANE_STOP and LANE_RESYNC. -/

namespace Sys2Proof.Machine

/-! ### Bits (R1, R2) -/

/-- Push a bit, received and corrected; the oldest of 33 is dropped. The silence counter and flag are cleared (R1). -/
def Intake.push (b : Bool) (x : Intake) : Intake :=
  { x with hist := ({ recv := b, corr := correct x.polarity b } :: x.hist).take Config.historyBits,
           silence := 0, silent := false }

/-- A rising edge of a lane clock: discarded by an OFF lane, taken by a running one (R1). -/
def takeBit (i : LaneId) (b : Bool) (s : State) : State :=
  if (s.lane i).running then (s.mapLane i fun l => { l with intake := l.intake.push b }).engineBit i else s

/-! ### Silence (R4, R5, R39) -/

/-- The lane counts ticks: it runs and its silent flag is clear (R4). -/
def LaneState.countsTicks (l : LaneState) : Bool := l.running && !l.intake.silent

/-- A tick at one lane's silence counter (R4). -/
def LaneState.countSilence (l : LaneState) : LaneState :=
  if l.countsTicks then { l with intake := { l.intake with silence := satInc l.intake.silence } } else l

/-- The comparison of R4: the lane counts, the limit is not 0 and the counter is equal to or above it. -/
def LaneState.silenceDue (l : LaneState) : Bool :=
  l.countsTicks && l.intake.profile.silenceLimit != 0 &&
    decide (l.intake.profile.silenceLimit.toNat ≤ l.intake.silence.toNat)

/-- A delivered frame in progress is abandoned (R39); its late test is cancelled. -/
def State.abandon (s : State) (i : LaneId) : State :=
  (s.endFrame i .abandoned).mapLane i fun l => { l with engine := { l.engine with late := none } }

/-- LOCK or COAST to SEARCH by LANE_RESYNC or silence: abandonment, search entry, LOCK_LOST (R39). -/
def State.loseLock (s : State) (i : LaneId) : State :=
  ((s.abandon i).enterSearch i).post .lockLost (laneSource i)

/-- The lock engine goes back to SEARCH, by its state (R5, R17). -/
def State.returnToSearch (s : State) (i : LaneId) : State :=
  match (s.lane i).engine.lock with
  | .off => s
  | .search => s
  | .check => s.enterSearch i
  | .lock => s.loseLock i
  | .coast => s.loseLock i

/-- The silence of a lane expires (R5). -/
def State.expireSilence (s : State) (i : LaneId) : State :=
  ((s.mapLane i fun l => { l with intake := { l.intake with silent := true } }).post .laneSilent
    (laneSource i)).returnToSearch i

/-- An order of a list, by code: every order has a code. -/
def arrange : Nat → List LaneId → List LaneId
  | _, [] => []
  | c, x :: xs => (arrange (c / (xs.length + 1)) xs).insertIdx (c % (xs.length + 1)) x

/-- The lanes whose silence expires, once a tick has been counted. -/
def State.dueLanes (s : State) : List LaneId := (List.finRange 4).filter fun i => (s.lane i).silenceDue

/-- The expiries of one tick. With several lanes their order is free (log entry 2). -/
def State.expireAll (s : State) : List LaneId → State
  | [] => s
  | [i] => s.expireSilence i
  | due => { (arrange (Config.silenceOrder s.choices) due).foldl State.expireSilence s with choices := s.choices + 1 }

/-- What a tick counts, before any silence expires: the time counter, then the four silence counters (R143, R4). -/
def State.countTick (s : State) : State :=
  { s with time.counter := s.time.counter + 1, lanes := s.lanes.map LaneState.countSilence }

/-- A tick: it is counted, and the silence of every lane that is then due expires (R143, R4). -/
def takeTick (s : State) : State := s.countTick.expireAll s.countTick.dueLanes

/-- SILENCE_EXPIRY of a lane: the tick on which the silence of that lane expires. A silence expires only after a tick that
the lane counts (R4, R44), and never while TCK is stopped (R102), so the event is that tick. Where the next tick would
not make the lane expire, the event does not occur (log entry 3). -/
def silenceEvent (i : LaneId) (s : State) : State :=
  if (s.countTick.lane i).silenceDue then takeTick s else s

/-! ### LSEL, PIDX, LSLIP, LSEQ (R6, R7, R37) -/

/-- R7. -/
def writeLsel (v : Byte) (s : State) : State :=
  if h : v.toNat < 4 then { s with lsel := ⟨v.toNat, h⟩ } else s.refuseConfig

/-- R7. -/
def writePidx (v : Byte) (s : State) : State :=
  if h : v.toNat < 24 then { s with pidx := ⟨v.toNat, h⟩ } else s.refuseConfig

/-- R6. -/
def readLslip (s : State) : Byte × State :=
  ((s.lane s.lsel).intake.slip, s.mapLane s.lsel fun l => { l with intake := { l.intake with slip := 0 } })

/-- R37. -/
def readLseq (h : Half) (s : State) : Byte × State :=
  match h with
  | .low => (loByte (s.lane s.lsel).engine.seq, { s with lseqLatch := (s.lane s.lsel).engine.seq })
  | .high => (hiByte s.lseqLatch, s)

/-! ### PDATA (R8 to R11) -/

/-- PIDX advances by 1, from 23 to 0. -/
def State.advancePidx (s : State) : State := { s with pidx := nextIdx s.pidx }

/-- R8. -/
def readPdata (s : State) : Byte × State := ((s.lane s.lsel).intake.profile.bytes[s.pidx], s.advancePidx)

/-- The byte carries record mode 3 at byte 14 (R9, R11). -/
def recordMode3 (k : Nat) (v : Byte) : Bool := k == 14 && v.extractLsb' 3 2 == 3

/-- A live write is refused (R11). -/
def liveRefused (p : Profile) (k : Nat) (v : Byte) : Bool :=
  (k == 12 && (decide (7 < (v.extractLsb' 0 4).toNat) || decide (7 < (v.extractLsb' 4 4).toNat))) ||
  (k == 13 && v.extractLsb' 0 4 == 0) ||
  (k == 14 && v.extractLsb' 0 2 != p.polarityMode)

/-- A profile write is refused: record mode 3 always; a structural byte or an out-of-range live byte while the lane
runs (R9 to R11). -/
def LaneState.refusesByte (l : LaneState) (k : Nat) (v : Byte) : Bool :=
  recordMode3 k v || (l.running && (structuralByte k || liveRefused l.intake.profile k v))

/-- The byte as stored: bits 7-5 of byte 14 are not (R166, R169). -/
def storedByte (k : Nat) (v : Byte) : Byte := if k = 14 then v &&& 0x1F else v

/-- The profile once the field of byte `k` takes effect: this byte, and its lower bytes from the holding place (R9). -/
def Intake.commitField (x : Intake) (k : Nat) (v : Byte) : Profile where
  bytes := Vector.ofFn fun j =>
    if j.val = k then storedByte k v
    else if fieldFirst k ≤ j.val ∧ j.val < k then x.holding[j] else x.profile.bytes[j]

/-- An accepted profile write: a low byte is held, any other takes effect (R9). -/
def Intake.storeByte (k : Fin 24) (v : Byte) (x : Intake) : Intake :=
  if k.val = fieldHighest k.val then { x with profile := x.commitField k.val v }
  else { x with holding := x.holding.set k v }

/-- R9 to R11. -/
def writePdata (v : Byte) (s : State) : State :=
  (if (s.lane s.lsel).refusesByte s.pidx.val v then s.refuseConfig
   else s.mapLane s.lsel fun l => { l with intake := l.intake.storeByte s.pidx v }).advancePidx

/-! ### LANE_START, LANE_STOP, LANE_RESYNC (R14 to R17) -/

/-- The polarity that LANE_START sets (R3). -/
def Profile.startPolarity (p : Profile) : Polarity := if p.polarityMode = 1 then .inverted else .normal

/-- The intake of a started lane (R15, items 2 to 5). -/
def Intake.start (x : Intake) : Intake :=
  { x with hist := [], polarity := x.profile.startPolarity, silence := 0, silent := false, slip := 0 }

/-- The engine of a started lane (R15, items 1 and 6; R20). -/
def Engine.start (_ : Engine) : Engine where
  lock := .search
  good := 0
  bad := 0
  bitPos := 0
  late := none
  frame := none
  seq := 0

/-- A started lane, before its search entry notice (R15, R20, R48, R61, R78). -/
def LaneState.start (l : LaneState) : LaneState :=
  { l with intake := l.intake.start, engine := l.engine.start, tracker := l.tracker.closeFrame,
           selector := l.selector.clear, check := l.check.clear }

/-- LANE_START (R14, R15). -/
def startLane (i : LaneId) (s : State) : CmdStatus × State :=
  if (s.lane i).running then (.refused .wrongState, s)
  else if (s.lane i).intake.profile.startable then (.done, (s.mapLane i LaneState.start).searchNotice i)
  else (.refused .badProfile, s)

/-- The intake of a stopped lane (R16, item 3). -/
def Intake.stop (x : Intake) : Intake := { x with hist := [], silence := 0, silent := false }

/-- The engine enters OFF (R41, R20). -/
def Engine.stop (x : Engine) : Engine :=
  { x with lock := .off, good := 0, bad := 0, bitPos := 0, late := none, frame := none }

/-- A stopped lane, before its stop notice: the LANE_STOP columns of R20, R48, R61 and R78, and R16. -/
def LaneState.stop (l : LaneState) : LaneState :=
  { l with intake := l.intake.stop, engine := l.engine.stop, tracker := l.tracker.closeFrame,
           selector := l.selector.clear, check := l.check.clear }

/-- LANE_STOP (R16, R41). -/
def stopLane (i : LaneId) (s : State) : CmdStatus × State :=
  if (s.lane i).running then (.done, ((s.abandon i).mapLane i LaneState.stop).takeActive i)
  else (.done, s.takeActive i)

/-- LANE_RESYNC (R17). -/
def resyncLane (i : LaneId) (s : State) : CmdStatus × State :=
  if (s.lane i).running then (.done, s.returnToSearch i) else (.refused .wrongState, s)

/-- SOFT_RESET at one lane: OFF, its slip counter 0, its frame discarded without a record, its bank in use ACTIVE (R19,
R42, R48, R61, R75, R88, R106). -/
def LaneState.softReset (active : Bank) (l : LaneState) : LaneState :=
  { l.stop with intake := { l.stop.intake with slip := 0 }, bankInUse := active }

end Sys2Proof.Machine
end

