-- ==== Sys2Proof/Machine/Tables.lean ====
section
/-! DEFINITION. The table store (06_table_banks_swap_and_copy.md): the two cursors, the table port, commits, TABLE_SWAP,
TABLE_COPY and copy steps. -/

namespace Sys2Proof.Machine

/-- The edit bank: the bank that is not ACTIVE (R93). -/
def TableStore.edit (t : TableStore) : Bank := t.active.other

/-- A 9-bit cursor from the high byte written and the holding place (R94). -/
def formed9 (hi lo : Byte) : Nat := (hi.extractLsb' 0 1 ++ lo).toNat

/-- Bit 8 of a cursor. -/
def cursorBit8 (x : Fin 260) : Bool := decide (256 ≤ x.val)

/-- Bits 7-0 of a cursor. -/
def cursorLow (x : Fin 260) : Byte := BitVec.ofNat 8 x.val

/-- The high byte of a cursor as its latch reads: bit 8 in bit 0 (R94). -/
def bit8Byte (b : Bool) : Byte := if b then 1 else 0

/-! ### Writing (R94 to R97) -/

/-- R94. -/
def writeTwidx (h : Half) (v : Byte) (s : State) : State :=
  match h with
  | .low => { s with tables.wLow := v }
  | .high =>
    if g : formed9 v s.tables.wLow < 260 then
      { s with tables.wIdx := ⟨formed9 v s.tables.wLow, g⟩, tables.wByte := 0,
               tables.wStage := Vector.replicate 6 0 }
    else s.refuseConfig

/-- R94. -/
def readTwidx (h : Half) (s : State) : Byte × State :=
  match h with
  | .low => (cursorLow s.tables.wIdx, { s with tables.wLatch := cursorBit8 s.tables.wIdx })
  | .high => (bit8Byte s.tables.wLatch, s)

/-- The write of byte 5: stored into the edit bank while no swap and no copy runs, refused otherwise (R96, R97). -/
def State.commitRecord (s : State) (r : Vector Byte 6) : State :=
  let t : State := { s with tables.wByte := 0, tables.wStage := Vector.replicate 6 0 }
  if s.tables.swapping || s.tables.copying then t.post .tableRefused deviceSource
  else
    { t with tables.ram := s.tables.ram.writeRecord s.tables.edit s.tables.wIdx.val (storedRecord s.tables.wIdx.val r),
             tables.wIdx := nextIdx s.tables.wIdx }

/-- R95. -/
def writeTwdata (v : Byte) (s : State) : State :=
  if s.tables.wByte = 5 then s.commitRecord (s.tables.wStage.set 5 v)
  else { s with tables.wStage := s.tables.wStage.set s.tables.wByte v, tables.wByte := nextIdx s.tables.wByte }

/-! ### Reading (R98, R99) -/

/-- R98. -/
def writeTridx (h : Half) (v : Byte) (s : State) : State :=
  match h with
  | .low => { s with tables.rLow := v }
  | .high =>
    if g : formed9 v s.tables.rLow < 260 then
      { s with tables.rIdx := ⟨formed9 v s.tables.rLow, g⟩, tables.rByte := 0 }
    else s.refuseConfig

/-- R98. -/
def readTridx (h : Half) (s : State) : Byte × State :=
  match h with
  | .low => (cursorLow s.tables.rIdx, { s with tables.rLatch := cursorBit8 s.tables.rIdx })
  | .high => (bit8Byte s.tables.rLatch, s)

/-- R98. -/
def writeTrbank (v : Byte) (s : State) : State :=
  if v = 0 then { s with tables.rBank := .bank0, tables.rByte := 0 }
  else if v = 1 then { s with tables.rBank := .bank1, tables.rByte := 0 }
  else s.refuseConfig

/-- R99. -/
def readTrdata (s : State) : Byte × State :=
  if s.tables.rByte = 0 then
    let r := s.tables.ram.readRecord s.tables.rBank s.tables.rIdx.val
    (r[0], { s with tables.rHold := r, tables.rByte := 1 })
  else if s.tables.rByte = 5 then
    (s.tables.rHold[5], { s with tables.rByte := 0, tables.rIdx := nextIdx s.tables.rIdx })
  else (s.tables.rHold[s.tables.rByte], { s with tables.rByte := nextIdx s.tables.rByte })

/-! ### Swap and copy (R100 to R105) -/

/-- A lane in OFF or SEARCH takes the new ACTIVE at once (R100, steps 2 and 3). -/
def LaneState.swapTo (b : Bank) (l : LaneState) : LaneState :=
  if l.engine.lock = .off ∨ l.engine.lock = .search then { l with bankInUse := b } else l

/-- TABLE_SWAP (R100). -/
def swapTables (s : State) : CmdStatus × State :=
  if s.tables.swapping || s.tables.copying then (.refused .busy, s)
  else
    let t : State := { s with tables.active := s.tables.edit, lanes := s.lanes.map (LaneState.swapTo s.tables.edit) }
    if t.noLanePending then (.started, t.post .swapDone deviceSource)
    else (.started, { t with tables.swapping := true })

/-- TABLE_COPY (R103). -/
def copyTables (s : State) : CmdStatus × State :=
  if s.tables.swapping || s.tables.copying then (.refused .busy, s)
  else (.started, { s with tables.copying := true, tables.copyAborted := false, tables.copyIdx := 0 })

/-- One copy step while the copy is BUSY (R104); without a BUSY copy there is no step to take (log entry 6). -/
def copyOne (s : State) : State :=
  if s.tables.copying then
    let x := s.tables.copyIdx
    let t : State := { s with
      tables.ram := s.tables.ram.writeRecord s.tables.edit x (s.tables.ram.readRecord s.tables.active x),
      tables.copyIdx := x + 1 }
    if x + 1 = Config.bankRecords then { t with tables.copying := false }.post .copyDone deviceSource else t
  else s

/-- SOFT_RESET at the table store, but for the banks in use (R105, R106). -/
def TableStore.softReset (t : TableStore) : TableStore :=
  { t with swapping := false, copying := false, copyAborted := t.copyAborted || t.copying, wByte := 0,
           wStage := Vector.replicate 6 0, rByte := 0, rHold := Vector.replicate 6 0 }

end Sys2Proof.Machine
end

