-- ==== Sys2Proof/Machine/Reset.lean ====
section
/-! DEFINITION. The two resets (10_host_port_and_commands.md, R159 to R162). -/

namespace Sys2Proof.Machine

/-- SOFT_RESET reaches every block in one happening, posts nothing and answers DONE (R159). -/
def softResetAll (s : State) : CmdStatus × State :=
  (.done, { s with
    lanes := s.lanes.map (LaneState.softReset s.tables.active)
    tables := s.tables.softReset
    queues := s.queues.softReset
    records := s.records.softReset
    attn := s.attn.softReset })

/-- RESET# low: every block at its hardware reset values (R161). The queue of waiting commands and the counter of free
choices are the model's own and stay (log entries 2, 4). -/
def resetAsserted (s : State) : State :=
  { State.reset with resetLow := true, choices := s.choices, pending := s.pending }

/-- RESET# goes high (R162). -/
def resetReleased (s : State) : State := { s with resetLow := false, dataOut := none }

end Sys2Proof.Machine
end

