-- ==== Sys2Proof/Machine/Bus.lean ====
section
/-! DEFINITION. The register window (11_register_window_and_formats.md, R164) and the bus accesses that reach it (R154,
R155, R157): every address, read and written. -/

namespace Sys2Proof.Machine

/-! ### Commands by code (R157) -/

/-- A CMD write: the command whose code is written, or BAD_CODE. -/
def issueCommand (code : Byte) (s : State) : State :=
  match code.toNat with
  | 0x01 => command 0x01 (withLane startLane) s
  | 0x02 => command 0x02 (withLane stopLane) s
  | 0x03 => command 0x03 (withLane resyncLane) s
  | 0x10 => command 0x10 swapTables s
  | 0x11 => command 0x11 copyTables s
  | 0x20 => command 0x20 (withQueue openQueue) s
  | 0x21 => command 0x21 (withQueue holdQueue) s
  | 0x22 => command 0x22 (withQueue disableQueue) s
  | 0x30 => command 0x30 latchTime s
  | 0x31 => command 0x31 loadTime s
  | 0x40 => command 0x40 flushRecords s
  | 0x7F => command 0x7F softResetAll s
  | _ => command code (fun t => (.refused .badCode, t)) s

/-! ### The register map (R164) -/

/-- The registers of the window. -/
inductive Reg where
  | cmd
  | carg
  | cstat
  | clast
  | dstat
  | lstat (lane : LaneId)
  | lsel
  | pidx
  | pdata
  | lslip
  | lseq (half : Half)
  | twidx (half : Half)
  | twdata
  | twbyte
  | tridx (half : Half)
  | trdata
  | trbank
  | qsel
  | qmode
  | qquota (half : Half)
  | qthr (half : Half)
  | qdepth (half : Half)
  | qlost (half : Half)
  | poolfree (half : Half)
  | qdata (byte : Fin 4)
  | dbind (port : PortId)
  | ddata (port : PortId) (byte : Fin 4)
  | rdata (byte : Fin 16)
  | rcount
  | rloss
  | timeByte (byte : Fin 6)
  | amask (byte : Fin 3)
  | acount
  | adata (byte : Fin 5)
  | unassigned
  deriving DecidableEq, Repr

/-- The half of a two-byte register whose low byte stands at an even address. -/
def halfAt (n : Nat) : Half := if n % 2 = 0 then .low else .high

/-- The register at an address (R164). -/
def decodeAddr (a : Addr) : Reg :=
  let n := a.toNat
  if n = 0x00 then .cmd
  else if n = 0x01 then .carg
  else if n = 0x02 then .cstat
  else if n = 0x03 then .clast
  else if n = 0x04 then .dstat
  else if 0x08 ≤ n ∧ n ≤ 0x0B then .lstat (Fin.ofNat 4 (n - 0x08))
  else if n = 0x0C then .lsel
  else if n = 0x0D then .pidx
  else if n = 0x0E then .pdata
  else if n = 0x0F then .lslip
  else if 0x10 ≤ n ∧ n ≤ 0x11 then .lseq (halfAt n)
  else if 0x14 ≤ n ∧ n ≤ 0x15 then .twidx (halfAt n)
  else if n = 0x16 then .twdata
  else if n = 0x17 then .twbyte
  else if 0x18 ≤ n ∧ n ≤ 0x19 then .tridx (halfAt n)
  else if n = 0x1A then .trdata
  else if n = 0x1B then .trbank
  else if n = 0x20 then .qsel
  else if n = 0x21 then .qmode
  else if 0x22 ≤ n ∧ n ≤ 0x23 then .qquota (halfAt n)
  else if 0x24 ≤ n ∧ n ≤ 0x25 then .qthr (halfAt n)
  else if 0x26 ≤ n ∧ n ≤ 0x27 then .qdepth (halfAt n)
  else if 0x28 ≤ n ∧ n ≤ 0x29 then .qlost (halfAt n)
  else if 0x2A ≤ n ∧ n ≤ 0x2B then .poolfree (halfAt n)
  else if 0x2C ≤ n ∧ n ≤ 0x2F then .qdata (Fin.ofNat 4 (n - 0x2C))
  else if 0x30 ≤ n ∧ n ≤ 0x31 then .dbind (Fin.ofNat 2 (n - 0x30))
  else if 0x34 ≤ n ∧ n ≤ 0x37 then .ddata 0 (Fin.ofNat 4 (n - 0x34))
  else if 0x38 ≤ n ∧ n ≤ 0x3B then .ddata 1 (Fin.ofNat 4 (n - 0x38))
  else if 0x40 ≤ n ∧ n ≤ 0x4F then .rdata (Fin.ofNat 16 (n - 0x40))
  else if n = 0x50 then .rcount
  else if n = 0x51 then .rloss
  else if 0x58 ≤ n ∧ n ≤ 0x5D then .timeByte (Fin.ofNat 6 (n - 0x58))
  else if 0x60 ≤ n ∧ n ≤ 0x62 then .amask (Fin.ofNat 3 (n - 0x60))
  else if n = 0x63 then .acount
  else if 0x64 ≤ n ∧ n ≤ 0x68 then .adata (Fin.ofNat 5 (n - 0x64))
  else .unassigned

/-- TRBANK as it reads back (R98). -/
def bankByte (b : Bank) : Byte := BitVec.ofNat 8 b.toNat

/-- A read of a register: the byte it returns and the effect its rule gives the read (R154, R164). -/
def readReg (r : Reg) (s : State) : Byte × State :=
  match r with
  | .cmd => (0, s)
  | .carg => (s.carg, s)
  | .cstat => (s.cstat.byte, s)
  | .clast => (s.clast, s)
  | .dstat => (s.dstat, s)
  | .lstat i => (s.lstat i, s)
  | .lsel => (BitVec.ofNat 8 s.lsel.val, s)
  | .pidx => (BitVec.ofNat 8 s.pidx.val, s)
  | .pdata => readPdata s
  | .lslip => readLslip s
  | .lseq h => readLseq h s
  | .twidx h => readTwidx h s
  | .twdata => (0, s)
  | .twbyte => (BitVec.ofNat 8 s.tables.wByte.val, s)
  | .tridx h => readTridx h s
  | .trdata => readTrdata s
  | .trbank => (bankByte s.tables.rBank, s)
  | .qsel => (BitVec.ofNat 8 s.queues.qsel.val, s)
  | .qmode => (s.selQueue.modeByte, s)
  | .qquota h => (halfOf h (BitVec.ofNat 16 s.selQueue.quota), s)
  | .qthr h => (halfOf h (BitVec.ofNat 16 s.selQueue.threshold), s)
  | .qdepth h => readQdepth h s
  | .qlost h => readQlost h s
  | .poolfree h => readPoolfree h s
  | .qdata k => readQdata k s
  | .dbind n => ((s.port n).bindByte, s)
  | .ddata n k => readDdata n k s
  | .rdata k => readRdata k s
  | .rcount => (BitVec.ofNat 8 s.records.list.length, s)
  | .rloss => readRloss s
  | .timeByte k => readTime k s
  | .amask k => (s.maskByte k, s)
  | .acount => (BitVec.ofNat 8 s.attn.list.length, s)
  | .adata k => readAdata k s
  | .unassigned => (0, s)

/-- A write of a register: stored, acted on, refused or ignored by its rule (R154, R164). -/
def writeReg (r : Reg) (v : Byte) (s : State) : State :=
  match r with
  | .cmd => issueCommand v s
  | .carg => { s with carg := v }
  | .cstat => s
  | .clast => s
  | .dstat => s
  | .lstat _ => s
  | .lsel => writeLsel v s
  | .pidx => writePidx v s
  | .pdata => writePdata v s
  | .lslip => s
  | .lseq _ => s
  | .twidx h => writeTwidx h v s
  | .twdata => writeTwdata v s
  | .twbyte => s
  | .tridx h => writeTridx h v s
  | .trdata => s
  | .trbank => writeTrbank v s
  | .qsel => writeQsel v s
  | .qmode => writeQmode v s
  | .qquota h => writeQquota h v s
  | .qthr h => writeQthr h v s
  | .qdepth _ => s
  | .qlost _ => s
  | .poolfree _ => s
  | .qdata _ => s
  | .dbind n => writeDbind n v s
  | .ddata _ _ => s
  | .rdata _ => s
  | .rcount => s
  | .rloss => s
  | .timeByte k => writeTime k v s
  | .amask k => writeAmask k v s
  | .acount => s
  | .adata _ => s
  | .unassigned => s

/-! ### Strobes (R154, R155) -/

/-- A host access, by its strobe (R154). A read or a write is taken; RD# and WR# together, or CS# high, reach no
register and drive nothing. -/
def hostAccess (strobe : HostStrobe) (a : Addr) (v : Byte) (s : State) : Host.Outcome State Fault Refusal :=
  match strobe with
  | .write => act (writeReg (decodeAddr a) v) s
  | .read => answer (readReg (decodeAddr a)) s
  | .readAndWrite => act id s
  | .unselected => act id s

/-- An access with an acknowledge input low (R155, R123). -/
def ackAccess (strobe : AckStrobe) (s : State) : Host.Outcome State Fault Refusal :=
  match strobe with
  | .read n => answer (readAck n) s
  | .readBoth => answer (fun t => (0, t)) s
  | .write => act id s
  | .readAndWrite => act id s
  | .noStrobe => act id s

end Sys2Proof.Machine
end

