-- ==== Sys2Proof/Machine/Commands.lean ====
section
/-! DEFINITION. The meaning of each command: one definition per row of spec/opcode_table.json. `act` and `answer`
(Ops.lean) give what every happening shares: nothing is taken while RESET# is low, and the data lines carry the byte of
a read and nothing else. -/

namespace Sys2Proof.Machine

/-! ### Events -/

/-- TAKE_BIT (R1). -/
def execTakeBit (i : LaneId) (b : Bool) (s : State) : Host.Outcome State Fault Refusal := act (takeBit i b) s

/-- TICK (R143). -/
def execTick (s : State) : Host.Outcome State Fault Refusal := act takeTick s

/-- SILENCE_EXPIRY (R5). -/
def execSilenceExpiry (i : LaneId) (s : State) : Host.Outcome State Fault Refusal := act (silenceEvent i) s

/-- COPY_STEP (R104). -/
def execCopyStep (s : State) : Host.Outcome State Fault Refusal := act copyOne s

/-- HARDWARE_RESET (R161). -/
def execHardwareReset (s : State) : Host.Outcome State Fault Refusal := .next (resetAsserted s)

/-- RESET_RELEASE (R162). -/
def execResetRelease (s : State) : Host.Outcome State Fault Refusal := .next (resetReleased s)

/-! ### Commands issued through CMD (R157) -/

/-- LANE_START (R14, R15). -/
def execLaneStart (s : State) : Host.Outcome State Fault Refusal := act (command 0x01 (withLane startLane)) s

/-- LANE_STOP (R16). -/
def execLaneStop (s : State) : Host.Outcome State Fault Refusal := act (command 0x02 (withLane stopLane)) s

/-- LANE_RESYNC (R17). -/
def execLaneResync (s : State) : Host.Outcome State Fault Refusal := act (command 0x03 (withLane resyncLane)) s

/-- TABLE_SWAP (R100). -/
def execTableSwap (s : State) : Host.Outcome State Fault Refusal := act (command 0x10 swapTables) s

/-- TABLE_COPY (R103). -/
def execTableCopy (s : State) : Host.Outcome State Fault Refusal := act (command 0x11 copyTables) s

/-- QUEUE_OPEN (R125). -/
def execQueueOpen (s : State) : Host.Outcome State Fault Refusal := act (command 0x20 (withQueue openQueue)) s

/-- QUEUE_HOLD (R126). -/
def execQueueHold (s : State) : Host.Outcome State Fault Refusal := act (command 0x21 (withQueue holdQueue)) s

/-- QUEUE_DISABLE (R127). -/
def execQueueDisable (s : State) : Host.Outcome State Fault Refusal := act (command 0x22 (withQueue disableQueue)) s

/-- TIME_LATCH (R145). -/
def execTimeLatch (s : State) : Host.Outcome State Fault Refusal := act (command 0x30 latchTime) s

/-- TIME_LOAD (R146). -/
def execTimeLoad (s : State) : Host.Outcome State Fault Refusal := act (command 0x31 loadTime) s

/-- RECORDS_FLUSH (R138). -/
def execRecordsFlush (s : State) : Host.Outcome State Fault Refusal := act (command 0x40 flushRecords) s

/-- SOFT_RESET (R159). -/
def execSoftReset (s : State) : Host.Outcome State Fault Refusal := act (command 0x7F softResetAll) s

/-- COMMAND_BAD_CODE: a CMD write of `code` (R157). A code that is a command issues it. -/
def execCommandBadCode (code : Byte) (s : State) : Host.Outcome State Fault Refusal := act (issueCommand code) s

/-! ### The profile port and the lane readouts -/

/-- LSEL_WRITE (R7). -/
def execLselWrite (v : Byte) (s : State) : Host.Outcome State Fault Refusal := act (writeLsel v) s

/-- PIDX_WRITE (R7). -/
def execPidxWrite (v : Byte) (s : State) : Host.Outcome State Fault Refusal := act (writePidx v) s

/-- PDATA_READ (R8). -/
def execPdataRead (s : State) : Host.Outcome State Fault Refusal := answer readPdata s

/-- PDATA_WRITE (R9 to R11). -/
def execPdataWrite (v : Byte) (s : State) : Host.Outcome State Fault Refusal := act (writePdata v) s

/-- LSLIP_READ (R6). -/
def execLslipRead (s : State) : Host.Outcome State Fault Refusal := answer readLslip s

/-- LSEQ_READ (R37). -/
def execLseqRead (h : Half) (s : State) : Host.Outcome State Fault Refusal := answer (readLseq h) s

/-! ### The table port -/

/-- TWIDX_WRITE (R94). -/
def execTwidxWrite (h : Half) (v : Byte) (s : State) : Host.Outcome State Fault Refusal := act (writeTwidx h v) s

/-- TWIDX_READ (R94). -/
def execTwidxRead (h : Half) (s : State) : Host.Outcome State Fault Refusal := answer (readTwidx h) s

/-- TWDATA_WRITE (R95, R96). -/
def execTwdataWrite (v : Byte) (s : State) : Host.Outcome State Fault Refusal := act (writeTwdata v) s

/-- TRIDX_WRITE (R98). -/
def execTridxWrite (h : Half) (v : Byte) (s : State) : Host.Outcome State Fault Refusal := act (writeTridx h v) s

/-- TRIDX_READ (R98). -/
def execTridxRead (h : Half) (s : State) : Host.Outcome State Fault Refusal := answer (readTridx h) s

/-- TRBANK_WRITE (R98). -/
def execTrbankWrite (v : Byte) (s : State) : Host.Outcome State Fault Refusal := act (writeTrbank v) s

/-- TRDATA_READ (R99). -/
def execTrdataRead (s : State) : Host.Outcome State Fault Refusal := answer readTrdata s

/-! ### The queue registers and the DMA ports -/

/-- QSEL_WRITE (R111). -/
def execQselWrite (v : Byte) (s : State) : Host.Outcome State Fault Refusal := act (writeQsel v) s

/-- QQUOTA_WRITE (R112). -/
def execQquotaWrite (h : Half) (v : Byte) (s : State) : Host.Outcome State Fault Refusal := act (writeQquota h v) s

/-- QTHR_WRITE (R113). -/
def execQthrWrite (h : Half) (v : Byte) (s : State) : Host.Outcome State Fault Refusal := act (writeQthr h v) s

/-- QMODE_WRITE (R114). -/
def execQmodeWrite (v : Byte) (s : State) : Host.Outcome State Fault Refusal := act (writeQmode v) s

/-- QDEPTH_READ (R115). -/
def execQdepthRead (h : Half) (s : State) : Host.Outcome State Fault Refusal := answer (readQdepth h) s

/-- QLOST_READ (R119). -/
def execQlostRead (h : Half) (s : State) : Host.Outcome State Fault Refusal := answer (readQlost h) s

/-- POOLFREE_READ (R115). -/
def execPoolfreeRead (h : Half) (s : State) : Host.Outcome State Fault Refusal := answer (readPoolfree h) s

/-- QDATA_READ (R121). -/
def execQdataRead (k : Fin 4) (s : State) : Host.Outcome State Fault Refusal := answer (readQdata k) s

/-- DBIND_WRITE (R124). -/
def execDbindWrite (n : PortId) (v : Byte) (s : State) : Host.Outcome State Fault Refusal := act (writeDbind n v) s

/-- DDATA_READ (R122). -/
def execDdataRead (n : PortId) (k : Fin 4) (s : State) : Host.Outcome State Fault Refusal := answer (readDdata n k) s

/-- DMA_ACKNOWLEDGE_READ (R123, R155). -/
def execDmaAcknowledgeRead (strobe : AckStrobe) (s : State) : Host.Outcome State Fault Refusal := ackAccess strobe s

/-! ### Frame records, time and attentions -/

/-- RDATA_READ (R136). -/
def execRdataRead (k : Fin 16) (s : State) : Host.Outcome State Fault Refusal := answer (readRdata k) s

/-- RLOSS_READ (R137). -/
def execRlossRead (s : State) : Host.Outcome State Fault Refusal := answer readRloss s

/-- TIME_READ (R144). -/
def execTimeRead (k : Fin 6) (s : State) : Host.Outcome State Fault Refusal := answer (readTime k) s

/-- ADATA_READ (R150). -/
def execAdataRead (k : Fin 5) (s : State) : Host.Outcome State Fault Refusal := answer (readAdata k) s

/-- REGISTER_WRITE (R154). -/
def execRegisterWrite (strobe : HostStrobe) (a : Addr) (v : Byte) (s : State) : Host.Outcome State Fault Refusal :=
  hostAccess strobe a v s

end Sys2Proof.Machine
end

