-- ==== Sys2Proof/Machine/Dispatch.lean ====
section
/-! DEFINITION. The dispatch: one arm per command, each one direct call of the command's meaning. -/

namespace Sys2Proof.Machine

/-- The effect of a command on everything but the queue of waiting commands. -/
def exec (i : Instr) (s : State) : Host.Outcome State Fault Refusal :=
  match i with
  | .takeBit lane bit => Sys2Proof.Machine.execTakeBit lane bit s
  | .tick => Sys2Proof.Machine.execTick s
  | .silenceExpiry lane => Sys2Proof.Machine.execSilenceExpiry lane s
  | .copyStep => Sys2Proof.Machine.execCopyStep s
  | .laneStart => Sys2Proof.Machine.execLaneStart s
  | .laneStop => Sys2Proof.Machine.execLaneStop s
  | .laneResync => Sys2Proof.Machine.execLaneResync s
  | .tableSwap => Sys2Proof.Machine.execTableSwap s
  | .tableCopy => Sys2Proof.Machine.execTableCopy s
  | .queueOpen => Sys2Proof.Machine.execQueueOpen s
  | .queueHold => Sys2Proof.Machine.execQueueHold s
  | .queueDisable => Sys2Proof.Machine.execQueueDisable s
  | .timeLatch => Sys2Proof.Machine.execTimeLatch s
  | .timeLoad => Sys2Proof.Machine.execTimeLoad s
  | .recordsFlush => Sys2Proof.Machine.execRecordsFlush s
  | .softReset => Sys2Proof.Machine.execSoftReset s
  | .commandBadCode code => Sys2Proof.Machine.execCommandBadCode code s
  | .hardwareReset => Sys2Proof.Machine.execHardwareReset s
  | .resetRelease => Sys2Proof.Machine.execResetRelease s
  | .lselWrite value => Sys2Proof.Machine.execLselWrite value s
  | .pidxWrite value => Sys2Proof.Machine.execPidxWrite value s
  | .pdataRead => Sys2Proof.Machine.execPdataRead s
  | .pdataWrite value => Sys2Proof.Machine.execPdataWrite value s
  | .lslipRead => Sys2Proof.Machine.execLslipRead s
  | .lseqRead half => Sys2Proof.Machine.execLseqRead half s
  | .twidxWrite half value => Sys2Proof.Machine.execTwidxWrite half value s
  | .twidxRead half => Sys2Proof.Machine.execTwidxRead half s
  | .twdataWrite value => Sys2Proof.Machine.execTwdataWrite value s
  | .tridxWrite half value => Sys2Proof.Machine.execTridxWrite half value s
  | .tridxRead half => Sys2Proof.Machine.execTridxRead half s
  | .trbankWrite value => Sys2Proof.Machine.execTrbankWrite value s
  | .trdataRead => Sys2Proof.Machine.execTrdataRead s
  | .qselWrite value => Sys2Proof.Machine.execQselWrite value s
  | .qquotaWrite half value => Sys2Proof.Machine.execQquotaWrite half value s
  | .qthrWrite half value => Sys2Proof.Machine.execQthrWrite half value s
  | .qmodeWrite value => Sys2Proof.Machine.execQmodeWrite value s
  | .qdepthRead half => Sys2Proof.Machine.execQdepthRead half s
  | .qlostRead half => Sys2Proof.Machine.execQlostRead half s
  | .poolfreeRead half => Sys2Proof.Machine.execPoolfreeRead half s
  | .qdataRead byte => Sys2Proof.Machine.execQdataRead byte s
  | .dbindWrite port value => Sys2Proof.Machine.execDbindWrite port value s
  | .ddataRead port byte => Sys2Proof.Machine.execDdataRead port byte s
  | .dmaAcknowledgeRead strobe => Sys2Proof.Machine.execDmaAcknowledgeRead strobe s
  | .rdataRead byte => Sys2Proof.Machine.execRdataRead byte s
  | .rlossRead => Sys2Proof.Machine.execRlossRead s
  | .timeRead byte => Sys2Proof.Machine.execTimeRead byte s
  | .adataRead byte => Sys2Proof.Machine.execAdataRead byte s
  | .registerWrite strobe addr value => Sys2Proof.Machine.execRegisterWrite strobe addr value s

end Sys2Proof.Machine
end

