-- ==== Sys2Proof/Safety.lean ====
section
/-! DEFINITION. What the spec promises of the part's state at every moment, whatever the order of the happenings: the
relations that the rules state, block by block. A run is safe while they hold. -/

namespace Sys2Proof

open Sys2Proof.Machine

/-! ### A lane's frame (R20, R47, R48, R57, R60, R61, R78, R83) -/

/-- What a cycle tracker's frame fields are to each other, from a frame's start to its end and between frames. -/
structure TrackerOk (t : Tracker) : Prop where
  /-- R57, R60: a position is known exactly in a frame that started in CY_LOCK or in counted mode. -/
  known : t.framePos.isSome = true ↔ t.frameState = some .lock ∨ t.frameState = some .counted
  /-- R48: a prediction is present exactly in a frame that started in CY_VERIFY or CY_LOCK, or in counted mode. -/
  predicted : t.prediction.isSome = true ↔
    t.frameState = some .verify ∨ t.frameState = some .lock ∨ t.frameState = some .counted
  /-- R51, R52, R57: a known position is the prediction. -/
  offered : t.framePos.isSome = true → t.framePos = t.prediction
  /-- R52, R54, R55: a counter word that is taken in CY_LOCK finds a prediction. -/
  locked : t.frameState.isSome = true → t.state = .lock → t.prediction.isSome = true

/-- A frame is in progress exactly in LOCK and COAST, and its three partners (cycle tracker, word selector, check block)
have it open exactly then. -/
structure FrameOk (l : LaneState) : Prop where
  /-- R47, R20. -/
  inLock : l.engine.frame.isSome = true ↔ l.engine.lock = .lock ∨ l.engine.lock = .coast
  /-- R48, R56: the tracker has a frame cycle state exactly while a delivered frame is open. -/
  tracked : l.tracker.frameState.isSome = true ↔ l.engine.frame.isSome = true
  /-- R48, R57, R60: the tracker's frame fields agree. -/
  tracker : TrackerOk l.tracker
  /-- R61: the selector is open for the frame. -/
  opened : l.selector.isOpen = true ↔ l.engine.frame.isSome = true
  /-- R64, R93: the frame bank is the bank in use that the frame's start took. -/
  bank : l.selector.isOpen = true → l.selector.bank = l.bankInUse
  /-- R78: the frame check state is none while no delivered frame is open. -/
  checked : l.check.state.isSome = true ↔ l.engine.frame.isSome = true
  /-- R83: the staging list holds records only while a delivered frame is open. -/
  staged : l.check.staging ≠ [] → l.engine.frame.isSome = true
  /-- R20, R27: a late test is pending only in LOCK and COAST. -/
  late : l.engine.late.isSome = true → l.engine.lock = .lock ∨ l.engine.lock = .coast
  /-- R20, R40, R41: entry to SEARCH or OFF sets both counts and the bit position to 0. -/
  idle : l.engine.lock = .off ∨ l.engine.lock = .search → l.engine.good = 0 ∧ l.engine.bad = 0 ∧ l.engine.bitPos = 0

/-- Every lane's frame is sound. -/
def FramesOk (s : State) : Prop := ∀ i : LaneId, FrameOk (s.lane i)

/-! ### A running lane's profile, cycle state and bit position (R14, R45, R49, R55, R60) -/

structure StartedOk (l : LaneState) : Prop where
  /-- R10, R11, R14: a running lane's profile meets the conditions of LANE_START. -/
  profile : l.running = true → l.intake.profile.startable = true
  /-- R60: CY_COUNTED in counted mode, never CY_COUNTED in marked mode, while the lane runs. -/
  mode : l.running = true → (l.tracker.state = .counted ↔ l.intake.profile.marked = false)
  /-- R48, R55: the miss count is 0 or 1. -/
  miss : l.tracker.miss ≤ 1
  /-- R45: the bit position is a position within a frame. -/
  position : l.running = true → l.engine.bitPos < l.intake.profile.frameBits
  /-- R27: a pending late test stands at the evaluation bit, position L-1. -/
  late : l.engine.lock = .lock ∨ l.engine.lock = .coast → l.engine.late.isSome = true →
    l.engine.bitPos + 1 = l.intake.profile.syncLen
  /-- R22: a lane is aligned by a window that exists. -/
  window : l.engine.lock = .check → l.intake.profile.syncLen ≤ l.intake.hist.length
  /-- R26: in LOCK and COAST the bit history always holds the early window. -/
  earlyWindow : l.engine.lock = .lock ∨ l.engine.lock = .coast →
    l.intake.profile.syncLen + 1 ≤ l.intake.hist.length

def LanesStarted (s : State) : Prop := ∀ i : LaneId, StartedOk (s.lane i)

/-! ### Capacities (R2, R83, R92, R134) -/

structure CapacitiesOk (s : State) : Prop where
  /-- R2. -/
  history : ∀ i : LaneId, (s.lane i).intake.hist.length ≤ 33
  /-- R83. -/
  staging : ∀ i : LaneId, (s.lane i).check.staging.length ≤ 32
  /-- R134. -/
  records : s.records.list.length ≤ 64
  /-- The table store is in canonical form. -/
  store : s.tables.ram.wf = true

/-! ### The pool and the queues (R110, R112, R113) -/

/-- The sum of the eight depths. -/
def totalDepth (s : State) : Nat := ((List.finRange 8).map fun q => (s.queue q).depth).sum

structure PoolOk (s : State) : Prop where
  /-- R110: the depths and the free count sum to 1024. -/
  total : totalDepth s + s.queues.free = 1024
  /-- R110: no depth exceeds its quota. -/
  depth : ∀ q : QueueId, (s.queue q).depth ≤ (s.queue q).quota
  /-- R112, R127: a DISABLED queue holds no entry. -/
  disabled : ∀ q : QueueId, (s.queue q).state = .disabled → (s.queue q).entries = []
  /-- R109. -/
  quota : ∀ q : QueueId, (s.queue q).quota ≤ 1024
  /-- R109. -/
  threshold : ∀ q : QueueId, 1 ≤ (s.queue q).threshold ∧ (s.queue q).threshold ≤ 1024

/-! ### Swap and copy (R93, R100 to R104) -/

structure SwapOk (s : State) : Prop where
  /-- R102: the swap-in-progress flag is set exactly when at least one lane's bank differs from ACTIVE. -/
  flag : s.tables.swapping = true ↔ ∃ i : LaneId, s.swapPending i = true
  /-- R93: a swap pending lane is in CHECK, LOCK or COAST. -/
  aligned : ∀ i : LaneId, s.swapPending i = true →
    (s.lane i).engine.lock = .check ∨ (s.lane i).engine.lock = .lock ∨ (s.lane i).engine.lock = .coast
  /-- R100, R103: a swap and a copy never run together. -/
  exclusive : s.tables.copying = true → s.tables.swapping = false
  /-- R104: the copy ends when its index reaches 260. -/
  progress : s.tables.copying = true → s.tables.copyIdx < 260

/-! ### The attention list (R147, R148) -/

/-- The sources that a cause carries (R147). -/
def legalSource (c : Cause) (src : Byte) : Bool :=
  if c.code ≤ 9 then decide (src.toNat < 4) else if c.code ≤ 11 then decide (src.toNat < 8) else src == 0xFF

structure AttentionOk (s : State) : Prop where
  /-- R148: no two records with the same cause and source. -/
  pairs : (s.attn.list.map fun r => (r.cause, r.source)).Nodup
  /-- R147: a record's source is one that its cause carries. -/
  sources : ∀ r ∈ s.attn.list, legalSource r.cause r.source = true
  /-- R147: a repeat count is 1 to 255. -/
  counts : ∀ r ∈ s.attn.list, r.count ≠ 0

/-! ### What a happening of one lane can reach (01_lane_intake.md to 08_frame_records.md) -/

/-- `t` follows `s` by happenings of lane `i` alone: its own blocks, the entries, slots and lost counters of the queues
it sends to, the frame records it ends, the attentions it posts, and the end of a swap that it was the last to take.
The other lanes, the lane's profile, both banks and the cursors, every queue setting, every port and holding register,
the time base, the admission masks and the command unit stay as they were. The data lines are not spoken of. -/
structure LaneFrame (i : LaneId) (s t : State) : Prop where
  others : ∀ j : LaneId, j ≠ i → t.lane j = s.lane j
  profile : (t.lane i).intake.profile = (s.lane i).intake.profile
  holding : (t.lane i).intake.holding = (s.lane i).intake.holding
  tables : t.tables = { s.tables with swapping := t.tables.swapping }
  queues : t.queues = { s.queues with free := t.queues.free, queue := t.queues.queue }
  queue : ∀ q : QueueId, t.queue q = { s.queue q with entries := (t.queue q).entries, lost := (t.queue q).lost }
  records : t.records = { s.records with list := t.records.list, loss := t.records.loss, gap := t.records.gap }
  attn : t.attn = { s.attn with list := t.attn.list }
  time : t.time = s.time
  carg : t.carg = s.carg
  cstat : t.cstat = s.cstat
  clast : t.clast = s.clast
  lsel : t.lsel = s.lsel
  pidx : t.pidx = s.pidx
  lseqLatch : t.lseqLatch = s.lseqLatch
  resetLow : t.resetLow = s.resetLow
  choices : t.choices = s.choices
  pending : t.pending = s.pending

/-! ### All of it -/

structure Inv (s : State) : Prop where
  frames : FramesOk s
  started : LanesStarted s
  capacities : CapacitiesOk s
  pool : PoolOk s
  swap : SwapOk s
  attention : AttentionOk s

/-! ### The terms in which the statements speak -/

/-- The bit taken `k` bits before the last one, as received (R2). -/
def receivedBit (x : Intake) (k : Nat) : Bool := ((x.hist[k]?).map HistBit.recv).getD false

/-- The bit taken `k` bits before the last one, as corrected (R2). -/
def correctedBit (x : Intake) (k : Nat) : Bool := ((x.hist[k]?).map HistBit.corr).getD false

/-- Mismatches of a window with the pattern; window bit `k` lines up with pattern bit `k` (R21). -/
def mismatchCount (p : Profile) (w : Nat → Bool) : Nat :=
  ((List.range p.syncLen).filter fun k => p.mask.getLsbD k && (w k != p.pattern.getLsbD k)).length

/-- Mismatches of a window with the complement of the pattern (R21). -/
def complementCount (p : Profile) (w : Nat → Bool) : Nat :=
  ((List.range p.syncLen).filter fun k => p.mask.getLsbD k && (w k == p.pattern.getLsbD k)).length

/-- Mismatches of the exact window, which ends at the last bit taken (R26). -/
def exactErrors (x : Intake) : Nat := mismatchCount x.profile (correctedBit x)

/-- Mismatches of the window that ends one bit earlier (R26). -/
def earlyErrors (x : Intake) : Nat := mismatchCount x.profile fun k => correctedBit x (k + 1)

/-- The ten conditions of R14, condition by condition. -/
def MeetsStartConditions (p : Profile) : Prop :=
  (8 ≤ p.wordLen ∧ p.wordLen ≤ 16 ∧ 1 ≤ p.syncWords ∧ p.syncWords ≤ 4) ∧
  (8 ≤ p.syncWords * p.wordLen ∧ p.syncWords * p.wordLen ≤ 32) ∧
  (p.syncWords + 1 ≤ p.frameWords ∧ p.frameWords ≤ 1024) ∧
  (∃ k, k < p.syncWords * p.wordLen ∧ p.mask.getLsbD k = true) ∧
  (p.searchTol ≤ 7 ∧ p.lockTol ≤ 7 ∧ 1 ≤ p.checkCount ∧ p.checkCount ≤ 15) ∧
  p.polarityMode ≠ 3 ∧
  (p.counterWord = 0 ∨ (p.syncWords ≤ p.counterWord ∧ p.counterWord ≤ p.frameWords - 1)) ∧
  (1 ≤ p.counterWidth ∧ p.counterWidth ≤ min p.wordLen 8) ∧
  (p.checkWord = 0 ∨ (p.syncWords ≤ p.checkWord ∧ p.checkWord ≤ p.frameWords - 1)) ∧
  (p.counterWord ≠ 0 → p.checkWord ≠ p.counterWord)

/-- The cycle state of a lane that has just entered SEARCH (R50, R49). -/
def searchCycle (p : Profile) : CycleState :=
  if p.counterWord ≠ 0 ∧ 2 ≤ p.cycleLen then .search else .counted

/-- The intake once a running lane has taken a bit (R1, R2). -/
def takenIntake (x : Intake) (b : Bool) : Intake :=
  { x with hist := ({ recv := b, corr := if x.polarity = .inverted then !b else b } :: x.hist).take 33,
           silence := 0, silent := false }

/-- The lane once a bit in CHECK, LOCK or COAST has been taken and has advanced the position (R1, R24). -/
def steppedLane (l : LaneState) (b : Bool) : LaneState :=
  { l with intake := takenIntake l.intake b,
           engine := { l.engine with
             bitPos := if l.engine.bitPos + 1 < l.intake.profile.frameBits then l.engine.bitPos + 1 else 0 } }

/-- The lane `l` as a frame start leaves it: the frame in progress (R31, R35, R36), the selector opened on the ACTIVE
bank with the lane's directory record `d` (R62, R63), the check block opened (R79), the cycle tracker started. -/
def begunLane (l : LaneState) (active : Bank) (d : DirRecord) (now : BitVec 48) (kind : StartKind) (slip : StartSlip)
    (errors : Nat) : LaneState where
  intake := l.intake
  engine := { l.engine with
    frame := some { kind := kind, slip := slip, errors := BitVec.ofNat 4 (min 15 errors), timeTag := now,
                    seq := l.engine.seq },
    seq := l.engine.seq + 1 }
  tracker := l.tracker.startFrame l.intake.profile kind
  selector :=
    { isOpen := true, bank := active, segBase := d.base,
      segStop := if 1 ≤ d.count ∧ d.base.toNat + d.count ≤ 256 then some (d.base.toNat + d.count) else none,
      cursor := d.base.toNat, kind := some kind, seq3 := l.engine.seq.extractLsb' 0 3,
      delivered := 0, queueLoss := 0, withheld := 0 }
  check :=
    { reg := l.intake.profile.seed,
      state := if l.intake.profile.checkWord = 0 then some .noCheck else some .pending,
      staging := [], overflow := false, discarded := 0 }
  bankInUse := active

/-- The lane `l` as an entry to SEARCH leaves it (R20, R40, R50, R93). -/
def searchingLane (l : LaneState) (active : Bank) : LaneState :=
  { l with engine := { l.engine with lock := .search, good := 0, bad := 0, bitPos := 0, late := none },
           tracker := { l.tracker with state := searchCycle l.intake.profile, miss := 0 },
           bankInUse := active }

/-- The lane `l` as LANE_STOP leaves it (R16, and the LANE_STOP columns of R20, R48, R61, R78). -/
def stoppedLane (l : LaneState) (active : Bank) : LaneState where
  intake := { l.intake with hist := [], silence := 0, silent := false }
  engine := { lock := .off, good := 0, bad := 0, bitPos := 0, late := none, frame := none, seq := l.engine.seq }
  tracker := { l.tracker with prediction := none, framePos := none, frameState := none }
  selector := { l.selector with isOpen := false, segStop := none, kind := none, delivered := 0, queueLoss := 0,
                                withheld := 0 }
  check := { reg := l.check.reg, state := none, staging := [], overflow := false, discarded := 0 }
  bankInUse := active

/-- The end of lane `i`'s frame `f` as the frame record queue takes it: offered under the lane's record mode. -/
def offeredEnd (s : State) (i : LaneId) (l : LaneState) (f : Frame) (e : EndClass) : State :=
  s.offerRecord l.intake.profile.recordMode (l.endRecord i f e)

/-- The machine after a good evaluation in LOCK or COAST of lane `i`, which stands at `l` with the slip counter and the
position of the accepted candidate (R28 to R32): the old frame's record, then the ACTIVE bank, then the new frame. -/
def acceptedState (s : State) (i : LaneId) (l : LaneState) (f : Frame) (slip : StartSlip) (e : EndClass)
    (errors : Nat) : State :=
  ((offeredEnd s i l f e).takeActive i).setLane i
    (begunLane { l.closeFrame with engine := { l.closeFrame.engine with lock := .lock, bad := 0, late := none } }
      s.tables.active (s.dirAt s.tables.active i) s.time.counter .lock slip errors)

/-- The bad count after a bad evaluation (R29, R30). -/
def badAfter (l : LaneState) : Nat := if l.engine.lock = .lock then 1 else l.engine.bad + 1

/-- The machine after a bad evaluation in LOCK or COAST of lane `i`, which stands at `l` (R29, R30, R32): the old
frame's record, then the ACTIVE bank, then a COAST frame or the entry to SEARCH, then the lock attention. -/
def rejectedState (s : State) (i : LaneId) (l : LaneState) (f : Frame) (errors : Nat) : State :=
  if badAfter l ≤ l.intake.profile.coastLimit then
    (if l.engine.lock = .lock then
      ((offeredEnd s i l f .unconfirmed).takeActive i).post .coastEntered (laneSource i)
     else (offeredEnd s i l f .unconfirmed).takeActive i).setLane i
      (begunLane { l.closeFrame with
          engine := { l.closeFrame.engine with lock := .coast, bad := badAfter l, late := none } }
        s.tables.active (s.dirAt s.tables.active i) s.time.counter .coast .none errors)
  else
    (((offeredEnd s i l f .unconfirmed).takeActive i).post .lockLost (laneSource i)).setLane i
      (searchingLane l.closeFrame s.tables.active)

/-- The machine after the frame `f` of lane `i`, in LOCK or COAST at `l`, has been abandoned for SEARCH (R39). -/
def abandonedState (s : State) (i : LaneId) (l : LaneState) (f : Frame) : State :=
  (((offeredEnd s i l f .abandoned).takeActive i).post .lockLost (laneSource i)).setLane i
    (searchingLane l.closeFrame s.tables.active)

/-- The machine once a tick has been counted and before any silence has expired (R143, R4). -/
def tickedState (s : State) : State :=
  { s with
    time.counter := s.time.counter + 1,
    lanes := s.lanes.map fun l =>
      if l.engine.lock ≠ .off ∧ l.intake.silent = false then
        { l with intake := { l.intake with
          silence := if l.intake.silence = 255 then 255 else l.intake.silence + 1 } }
      else l }

/-- After a counted tick, the silence of the lane expires (R4). -/
def ExpiryDue (l : LaneState) : Prop :=
  l.engine.lock ≠ .off ∧ l.intake.silent = false ∧ 1 ≤ l.intake.profile.silenceLimit.toNat ∧
  l.intake.profile.silenceLimit.toNat ≤ l.intake.silence.toNat

/-- The commands that strobe RD# alone, so that the part drives the data lines (R154, R155). -/
def strobesRead : Instr → Bool
  | .takeBit _ _ => false
  | .tick => false
  | .silenceExpiry _ => false
  | .copyStep => false
  | .laneStart => false
  | .laneStop => false
  | .laneResync => false
  | .tableSwap => false
  | .tableCopy => false
  | .queueOpen => false
  | .queueHold => false
  | .queueDisable => false
  | .timeLatch => false
  | .timeLoad => false
  | .recordsFlush => false
  | .softReset => false
  | .commandBadCode _ => false
  | .hardwareReset => false
  | .resetRelease => false
  | .lselWrite _ => false
  | .pidxWrite _ => false
  | .pdataRead => true
  | .pdataWrite _ => false
  | .lslipRead => true
  | .lseqRead _ => true
  | .twidxWrite _ _ => false
  | .twidxRead _ => true
  | .twdataWrite _ => false
  | .tridxWrite _ _ => false
  | .tridxRead _ => true
  | .trbankWrite _ => false
  | .trdataRead => true
  | .qselWrite _ => false
  | .qquotaWrite _ _ => false
  | .qthrWrite _ _ => false
  | .qmodeWrite _ => false
  | .qdepthRead _ => true
  | .qlostRead _ => true
  | .poolfreeRead _ => true
  | .qdataRead _ => true
  | .dbindWrite _ _ => false
  | .ddataRead _ _ => true
  | .dmaAcknowledgeRead (.read _) => true
  | .dmaAcknowledgeRead .readBoth => true
  | .dmaAcknowledgeRead .write => false
  | .dmaAcknowledgeRead .readAndWrite => false
  | .dmaAcknowledgeRead .noStrobe => false
  | .rdataRead _ => true
  | .rlossRead => true
  | .timeRead _ => true
  | .adataRead _ => true
  | .registerWrite .read _ _ => true
  | .registerWrite .write _ _ => false
  | .registerWrite .readAndWrite _ _ => false
  | .registerWrite .unselected _ _ => false

/-- The profile bytes that carry multi-byte fields, each field as its lowest and its highest byte (R9). -/
def multiByteFields : List (Nat × Nat) := [(2, 3), (4, 7), (8, 11), (17, 18), (20, 21), (22, 23)]

end Sys2Proof
end

