-- ==== Sys2Proof/Certificates/Slice0/Obligations.lean ====
section
/-! DEFINITION. The statements for the provers. Each docstring names the rules of spec/ that the statement rests on.
Where a statement gives the next state as a record update of `s`, everything that the update does not name is unchanged:
that is its frame. `{ s with … }` keeps the queue of waiting commands and the counter of free choices. -/

open Sys2Proof Sys2Proof.Machine

/-! ### The machine -/

/-- A step runs the command at the front of the queue on the state with the queue's rest. That the block idles on an
empty queue is the model's choice (log entry 4). -/
def Obligations.StepRunsFrontCommand : Prop :=
  ∀ s : State,
    (∀ c rest, s.pending = c :: rest → step s = exec c { s with pending := rest }) ∧
    (s.pending = [] → step s = .next s)

/-- R161, R162: what hardware reset leaves, from any state: the hardware reset column of every block (R13, R19, R20, R48,
R61, R78, R92, R109, R131, R142, R147, R153, R156, R158). RESET_RELEASE changes the level of RESET# alone.
That the queue of waiting commands and the counter of free choices stay (log entries 2, 4), and that RESET_RELEASE with
RESET# already high changes no register (log entry 7), are the model's choices. -/
def Obligations.HardwareResetLeaves : Prop :=
  ∀ s : State,
    exec .resetRelease s = .next { s with resetLow := false, dataOut := none } ∧
    ∃ t, exec .hardwareReset s = .next t ∧
      (∀ i : LaneId, t.lane i =
        { intake :=
            { hist := [], polarity := .normal, silence := 0, silent := false, slip := 0,
              profile := { bytes := #v[8, 2, 16, 0, 0, 0, 0, 0, 0, 0, 0, 0, 0, 0x22, 0, 0, 0, 0, 0, 8, 0, 0, 0xFF, 0xFF] },
              holding := #v[8, 2, 16, 0, 0, 0, 0, 0, 0, 0, 0, 0, 0, 0x22, 0, 0, 0, 0, 0, 8, 0, 0, 0xFF, 0xFF] },
          engine := { lock := .off, good := 0, bad := 0, bitPos := 0, late := none, frame := none, seq := 0 },
          tracker := { state := .search, last := 0, miss := 0, prediction := none, framePos := none, frameState := none },
          selector :=
            { isOpen := false, bank := .bank0, segBase := 0, segStop := none, cursor := 0, kind := none, seq3 := 0,
              delivered := 0, queueLoss := 0, withheld := 0 },
          check := { reg := 0, state := none, staging := [], overflow := false, discarded := 0 },
          bankInUse := .bank0 }) ∧
      (∀ q : QueueId, t.queue q =
        { state := .disabled, quota := 0, threshold := 1, policy := .dropNew, drain := false, entries := [], lost := 0 }) ∧
      (∀ n : PortId, t.port n = { hold := #v[0, 0, 0, 0], idx := 0, bind := none }) ∧
      t.queues.free = 1024 ∧ t.queues.qsel = 0 ∧ t.queues.quotaLow = 0 ∧ t.queues.thrLow = 0 ∧
      t.queues.depthLatch = 0 ∧ t.queues.lostLatch = 0 ∧ t.queues.freeLatch = 0 ∧ t.queues.hostHold = #v[0, 0, 0, 0] ∧
      t.tables =
        { ram := [], active := .bank0, swapping := false, copying := false, copyAborted := false, copyIdx := 0,
          wIdx := 0, wByte := 0, wStage := #v[0, 0, 0, 0, 0, 0], wLow := 0, wLatch := false, rIdx := 0, rBank := .bank0,
          rByte := 0, rHold := #v[0, 0, 0, 0, 0, 0], rLow := 0, rLatch := false } ∧
      (∀ a, t.tables.ram.read a = 0) ∧
      t.records = { list := [], loss := 0, gap := false, hold := Vector.replicate 16 0 } ∧
      t.time = { counter := 0, latch := 0, waiting := false, preset := #v[0, 0, 0, 0, 0, 0] } ∧
      t.attn = { list := [], masks := 0, hold := #v[0, 0, 0, 0, 0] } ∧
      t.carg = 0 ∧ t.cstat = .noCommand ∧ t.clast = 0 ∧ t.lsel = 0 ∧ t.pidx = 0 ∧ t.lseqLatch = 0 ∧
      t.resetLow = true ∧ t.dataOut = none ∧ t.choices = s.choices ∧ t.pending = s.pending ∧
      t.irqLow = false ∧ (∀ n : PortId, t.drq n = false)

/-- R161, and 00_scope.md: nothing stops the part. In every state every command answers a next state. While RESET# is low
no happening is taken: every read strobe returns 00h, and nothing else is driven or changed. -/
def Obligations.CommandsAnswerAndResetLowHolds : Prop :=
  (∀ (c : Instr) (s : State), ∃ t, exec c s = .next t) ∧
  (∀ (c : Instr) (s : State), s.resetLow = true → c ≠ .hardwareReset → c ≠ .resetRelease →
    exec c s = .next { s with dataOut := if strobesRead c then some 0 else none })

/-! ### A lane bit (R1, R2, R22 to R33) -/

/-- R1, R2, R22, R33: the bits that no alignment, no evaluation and no word reaches. An OFF lane discards its bit; in
SEARCH a bit whose window does not exist or does not match is taken and nothing more; in CHECK, and in LOCK and COAST
without a late test, a bit that ends no sync and completes no data word advances the position alone. -/
def Obligations.TakeBitWithoutEvent : Prop :=
  ∀ (s : State) (i : LaneId) (b : Bool), s.resetLow = false → LanesStarted s →
    let l := s.lane i
    let p := l.intake.profile
    let x := takenIntake l.intake b
    let m := steppedLane l b
    (l.engine.lock = .off → exec (.takeBit i b) s = .next { s with dataOut := none }) ∧
    (l.engine.lock = .search →
      (x.hist.length < p.syncLen ∨
        ((p.polarityMode ≠ 1 → p.searchTol < mismatchCount p (receivedBit x)) ∧
         (p.polarityMode ≠ 0 → p.searchTol < complementCount p (receivedBit x)))) →
      exec (.takeBit i b) s = .next { s.setLane i { l with intake := x } with dataOut := none }) ∧
    (l.engine.lock = .check → m.engine.bitPos + 1 ≠ p.syncLen →
      exec (.takeBit i b) s = .next { s.setLane i m with dataOut := none }) ∧
    (l.engine.lock = .lock ∨ l.engine.lock = .coast → l.engine.late = none → m.engine.bitPos + 1 ≠ p.syncLen →
      (∀ k, p.syncWords ≤ k → k < p.frameWords → m.engine.bitPos ≠ k * p.wordLen + p.wordLen - 1) →
      exec (.takeBit i b) s = .next { s.setLane i m with dataOut := none })

/-- R22, R23, R3: a search match aligns the lane. In AUTO a plain match is taken before a complement match. The polarity
is set by the match, and a change rebuilds the corrected history and posts POLARITY_SET. -/
def Obligations.SearchMatchAligns : Prop :=
  ∀ (s : State) (i : LaneId) (b : Bool) (q : Polarity), s.resetLow = false → (s.lane i).engine.lock = .search →
    let l := s.lane i
    let p := l.intake.profile
    let x := takenIntake l.intake b
    let plain := mismatchCount p (receivedBit x) ≤ p.searchTol
    let compl := complementCount p (receivedBit x) ≤ p.searchTol
    p.syncLen ≤ x.hist.length →
    (q = .normal ∧ (p.polarityMode = 0 ∨ p.polarityMode = 2) ∧ plain) ∨
      (q = .inverted ∧ ((p.polarityMode = 1 ∧ compl) ∨ (p.polarityMode = 2 ∧ ¬plain ∧ compl))) →
    let e : Engine := { l.engine with lock := .check, good := 0, bad := 0, bitPos := p.syncLen - 1 }
    (l.intake.polarity = q →
      exec (.takeBit i b) s = .next { s.setLane i { l with intake := x, engine := e } with dataOut := none }) ∧
    (l.intake.polarity ≠ q →
      exec (.takeBit i b) s =
        .next { (s.post .polaritySet (laneSource i)).setLane i
          { l with
            intake := { x with
              polarity := q,
              hist := x.hist.map fun h => { recv := h.recv, corr := if q = .inverted then !h.recv else h.recv } },
            engine := e } with dataOut := none })

/-- R25, R32, R43: a sync evaluation in CHECK. A bad one sends the lane to SEARCH. A good one below C stays in CHECK. A
good one that reaches C gains lock, starts a CONFIRM frame on the ACTIVE bank and posts LOCK_GAINED last. -/
def Obligations.CheckEvaluation : Prop :=
  ∀ (s : State) (i : LaneId) (b : Bool), s.resetLow = false → LanesStarted s → (s.lane i).engine.lock = .check →
    let m := steppedLane (s.lane i) b
    let p := m.intake.profile
    m.engine.bitPos + 1 = p.syncLen →
    (p.lockTol < exactErrors m.intake →
      exec (.takeBit i b) s =
        .next { (s.takeActive i).setLane i (searchingLane m s.tables.active) with dataOut := none }) ∧
    (exactErrors m.intake ≤ p.lockTol → m.engine.good + 1 < p.checkCount →
      exec (.takeBit i b) s =
        .next { (s.takeActive i).setLane i
          { m with engine := { m.engine with good := m.engine.good + 1 }, bankInUse := s.tables.active } with
          dataOut := none }) ∧
    (exactErrors m.intake ≤ p.lockTol → p.checkCount ≤ m.engine.good + 1 →
      exec (.takeBit i b) s =
        .next { ((s.takeActive i).post .lockGained (laneSource i)).setLane i
          (begunLane { m with engine := { m.engine with good := m.engine.good + 1, bad := 0, lock := .lock } }
            s.tables.active (s.dirAt s.tables.active i) s.time.counter .confirm .none (exactErrors m.intake)) with
          dataOut := none })

/-- R26, R28 to R32, R38: a sync evaluation in LOCK or COAST on its evaluation bit tries the exact window, then with the
slip window on the early one, and then waits for the late one. An accepted early candidate moves the position to L and
counts a slip. With the slip window off a failed exact window is a bad evaluation. -/
def Obligations.LockEvaluation : Prop :=
  ∀ (s : State) (i : LaneId) (b : Bool) (f : Frame), s.resetLow = false → LanesStarted s →
    (s.lane i).engine.lock = .lock ∨ (s.lane i).engine.lock = .coast →
    (s.lane i).engine.late = none → (s.lane i).engine.frame = some f →
    let m := steppedLane (s.lane i) b
    let p := m.intake.profile
    m.engine.bitPos + 1 = p.syncLen →
    (exactErrors m.intake ≤ p.lockTol →
      exec (.takeBit i b) s =
        .next { acceptedState s i m f .none .normal (exactErrors m.intake) with dataOut := none }) ∧
    (p.lockTol < exactErrors m.intake → p.slipWindow = true → earlyErrors m.intake ≤ p.lockTol →
      exec (.takeBit i b) s =
        .next { acceptedState s i
          { m with engine := { m.engine with bitPos := p.syncLen },
                   intake := { m.intake with
                     slip := if m.intake.slip = 255 then 255 else m.intake.slip + 1 } }
          f .early .short (earlyErrors m.intake) with dataOut := none }) ∧
    (p.lockTol < exactErrors m.intake → p.slipWindow = true → p.lockTol < earlyErrors m.intake →
      exec (.takeBit i b) s =
        .next { s.setLane i { m with engine := { m.engine with late := some p.lockTol } } with dataOut := none }) ∧
    (p.lockTol < exactErrors m.intake → p.slipWindow = false →
      exec (.takeBit i b) s = .next { rejectedState s i m f (exactErrors m.intake) with dataOut := none })

/-- R27 to R31: the next bit completes a late test. The window that now ends is compared with the El value that the test
recorded. Accepted, the position becomes L-1 and a slip is counted; otherwise the evaluation is bad, the position stays
at L, and the errors recorded are those of the exact window, one bit earlier. -/
def Obligations.LateTestCompletes : Prop :=
  ∀ (s : State) (i : LaneId) (b : Bool) (f : Frame) (tol : Nat), s.resetLow = false → LanesStarted s →
    (s.lane i).engine.lock = .lock ∨ (s.lane i).engine.lock = .coast →
    (s.lane i).engine.late = some tol → (s.lane i).engine.frame = some f →
    let m := steppedLane (s.lane i) b
    let p := m.intake.profile
    m.engine.bitPos = p.syncLen ∧
    (exactErrors m.intake ≤ tol →
      exec (.takeBit i b) s =
        .next { acceptedState s i
          { m with engine := { m.engine with bitPos := p.syncLen - 1 },
                   intake := { m.intake with
                     slip := if m.intake.slip = 255 then 255 else m.intake.slip + 1 } }
          f .late .long (exactErrors m.intake) with dataOut := none }) ∧
    (tol < exactErrors m.intake →
      exec (.takeBit i b) s = .next { rejectedState s i m f (earlyErrors m.intake) with dataOut := none })

/-- R33, R73: in a delivered frame the bit at position kW + W - 1 completes data word k. Its value is the last W corrected
bits, the first received most significant, and it goes to the cycle tracker, the check block and the selector, in that
order. -/
def Obligations.DataWordCompletes : Prop :=
  ∀ (s : State) (i : LaneId) (b : Bool) (f : Frame) (k : Nat), s.resetLow = false → LanesStarted s →
    (s.lane i).engine.lock = .lock ∨ (s.lane i).engine.lock = .coast →
    (s.lane i).engine.late = none → (s.lane i).engine.frame = some f →
    let m := steppedLane (s.lane i) b
    let p := m.intake.profile
    p.syncWords ≤ k → k < p.frameWords → m.engine.bitPos = k * p.wordLen + p.wordLen - 1 →
    ∃ v : BitVec 16,
      (∀ j, v.getLsbD j = (decide (j < p.wordLen) && correctedBit m.intake j)) ∧
      exec (.takeBit i b) s =
        .next { (((s.setLane i m).trackWord i k v).checkWordNotice i k v).selectWord i k v with dataOut := none }

/-- TAKE_BIT reaches nothing but its own lane and what a lane's happening may reach: the other lanes, the profile, the
banks, the cursors, the queue settings, the ports, the time base, the masks and the command unit stay as they were. -/
def Obligations.TakeBitFrame : Prop :=
  ∀ (s t : State) (i : LaneId) (b : Bool), exec (.takeBit i b) s = .next t → LaneFrame i s t

/-! ### What a frame's start and end give its partners -/

/-- R133 with R38, R56, R75, R87: the record that a frame's end builds, field by field, and the lane once every partner
has closed the frame. Staged words of a PENDING frame are counted as discarded, up to 255, and its result is
UNCHECKED. That a lane without a check state gives NONE, and one without a frame cycle state CY_SEARCH, is the model's
choice (log entry 10), which FramesStaySound keeps out of a frame's end. -/
def Obligations.FrameEndRecord : Prop :=
  ∀ (l : LaneState) (i : LaneId) (f : Frame) (e : EndClass),
    l.endRecord i f e =
      { lane := i, kind := f.kind, slip := f.slip, endClass := e, errors := f.errors,
        inverted := decide (l.intake.polarity = .inverted), seq := f.seq, timeTag := f.timeTag,
        cyclePos := match l.tracker.framePos with
          | some c => c
          | none => 255,
        cycleState := match l.tracker.frameState with
          | some c => c
          | none => .search,
        delivered := l.selector.delivered, queueLoss := l.selector.queueLoss, withheld := l.selector.withheld,
        result := match l.check.state with
          | some .good => .good
          | some .bad => .bad
          | some .pending => .unchecked
          | some .noCheck => .noCheck
          | none => .noCheck,
        overflow := l.check.overflow,
        discarded := if l.check.state = some .pending then
            BitVec.ofNat 8 (min 255 (l.check.discarded.toNat + l.check.staging.length))
          else l.check.discarded,
        gap := false } ∧
    l.closeFrame =
      { l with
        engine := { l.engine with frame := none },
        tracker := { l.tracker with prediction := none, framePos := none, frameState := none },
        selector := { l.selector with isOpen := false },
        check := { reg := l.check.reg, state := none, staging := [], overflow := false, discarded := 0 } }

/-- R132, R134, R135: which frames offer their record under each record mode, and how an offered record is stored with
the pending gap or dropped with RECORD_LOSS. A record mode of 3 is never stored (R11). -/
def Obligations.FrameRecordOffered : Prop :=
  ∀ (s : State) (mode : BitVec 2) (r : FrameRecord), mode ≠ 3 →
    let exceptional : Prop :=
      r.kind = .coast ∨ r.slip = .early ∨ r.slip = .late ∨ r.endClass = .short ∨ r.endClass = .long ∨
      r.endClass = .unconfirmed ∨ r.endClass = .abandoned ∨ r.result = .bad ∨ r.result = .unchecked ∨
      r.overflow = true ∨ 1 ≤ r.queueLoss.toNat ∨ 1 ≤ r.withheld.toNat ∨ 1 ≤ r.discarded.toNat
    (mode = 0 ∨ (mode = 1 ∧ ¬exceptional) → s.offerRecord mode r = s) ∧
    (mode = 2 ∨ (mode = 1 ∧ exceptional) → s.records.list.length ≤ 63 →
      s.offerRecord mode r =
        { s with records.list := s.records.list ++ [{ r with gap := s.records.gap }], records.gap := false }) ∧
    (mode = 2 ∨ (mode = 1 ∧ exceptional) → 64 ≤ s.records.list.length →
      s.offerRecord mode r =
        { s with records.loss := if s.records.loss = 255 then 255 else s.records.loss + 1,
                 records.gap := true }.post .recordLoss 0xFF)

/-- R93, R102: a lane takes the ACTIVE bank. If it was swap pending and no other lane is, the swap ends: the flag clears
and SWAP_DONE is posted. -/
def Obligations.LaneTakesActiveBank : Prop :=
  ∀ (s : State) (i : LaneId),
    ((s.lane i).bankInUse = s.tables.active → s.takeActive i = s) ∧
    ((s.lane i).bankInUse ≠ s.tables.active →
      (∃ j, j ≠ i ∧ (s.lane j).bankInUse ≠ s.tables.active) →
      s.takeActive i = s.setLane i { s.lane i with bankInUse := s.tables.active }) ∧
    ((s.lane i).bankInUse ≠ s.tables.active →
      (∀ j, j ≠ i → (s.lane j).bankInUse = s.tables.active) →
      s.takeActive i =
        ({ s with tables.swapping := false }.post .swapDone 0xFF).setLane i
          { s.lane i with bankInUse := s.tables.active })

/-- R51, R52: the cycle tracker at a frame start. In counted mode the frame is counted, from 0 at a CONFIRM start. In
marked mode the prediction and the position offered follow the cycle state, and the cycle state, the last position and
the miss count stay. -/
def Obligations.CycleAtFrameStart : Prop :=
  ∀ (p : Profile) (kind : StartKind) (t : Tracker),
    let next : Byte := BitVec.ofNat 8 ((t.last.toNat + 1) % p.cycleLen)
    ((p.counterWord = 0 ∨ p.cycleLen < 2) →
      (kind = .confirm → t.startFrame p kind =
        { t with prediction := some 0, framePos := some 0, last := 0, frameState := some .counted }) ∧
      (kind ≠ .confirm → t.startFrame p kind =
        { t with prediction := some next, framePos := some next, last := next, frameState := some .counted })) ∧
    (p.counterWord ≠ 0 → 2 ≤ p.cycleLen →
      (t.state = .search → t.startFrame p kind =
        { t with prediction := none, framePos := none, frameState := some .search }) ∧
      (t.state = .verify → t.startFrame p kind =
        { t with prediction := some next, framePos := none, frameState := some .verify }) ∧
      (t.state = .lock → t.startFrame p kind =
        { t with prediction := some next, framePos := some next, frameState := some .lock }))

/-! ### The three partners of a data word -/

/-- R49, R53 to R55, R58: what the counter word does in each cycle state, and that no other word does anything. The
counter value is the low B bits of the word, valid below M. In CY_LOCK an open frame has a prediction (FramesStaySound). -/
def Obligations.CounterWordMovesCycle : Prop :=
  ∀ (s : State) (i : LaneId) (x : Nat) (v : BitVec 16),
    let l := s.lane i
    let p := l.intake.profile
    let t := l.tracker
    let c := v.toNat % 2 ^ p.counterWidth
    let become := fun u : Tracker => s.setLane i { l with tracker := u }
    (p.counterWord = 0 ∨ p.cycleLen < 2 ∨ x ≠ p.counterWord ∨ x < p.syncWords → s.trackWord i x v = s) ∧
    (p.counterWord ≠ 0 → 2 ≤ p.cycleLen → x = p.counterWord → p.syncWords ≤ x →
      (t.state = .search → c < p.cycleLen →
        s.trackWord i x v = become { t with last := BitVec.ofNat 8 c, state := .verify }) ∧
      (t.state = .search → p.cycleLen ≤ c → s.trackWord i x v = s) ∧
      (t.state = .verify → c < p.cycleLen → t.prediction = some (BitVec.ofNat 8 c) →
        s.trackWord i x v =
          (become { t with last := BitVec.ofNat 8 c, state := .lock, miss := 0 }).post .cycleLocked (laneSource i)) ∧
      (t.state = .verify → c < p.cycleLen → t.prediction ≠ some (BitVec.ofNat 8 c) →
        s.trackWord i x v = become { t with last := BitVec.ofNat 8 c }) ∧
      (t.state = .verify → p.cycleLen ≤ c → s.trackWord i x v = become { t with state := .search }) ∧
      (t.state = .lock → c < p.cycleLen → t.prediction = some (BitVec.ofNat 8 c) →
        s.trackWord i x v = become { t with last := BitVec.ofNat 8 c, miss := 0 }) ∧
      (∀ y, t.state = .lock → t.prediction = some y → (p.cycleLen ≤ c ∨ y ≠ BitVec.ofNat 8 c) → t.miss = 0 →
        s.trackWord i x v = become { t with last := y, miss := 1 }) ∧
      (∀ y, t.state = .lock → t.prediction = some y → (p.cycleLen ≤ c ∨ y ≠ BitVec.ofNat 8 c) → t.miss = 1 →
        s.trackWord i x v =
          (become { t with last := y, miss := 0, state := .search }).post .cycleLost (laneSource i)))

/-- R81 and "Computing the Check Value in Software": feeding a word of W bits bit by bit equals the whole-word form,
which exclusive-ORs the word, shifted up by 16-W places, into the register and then makes W steps. -/
def Obligations.CheckRegisterWordForm : Prop :=
  ∀ (w : Nat) (v r : BitVec 16), w ≤ 16 → v.toNat < 2 ^ w →
    crcBits v w r =
      (List.range w).foldl (fun x _ => if x.getLsbD 15 then (x <<< 1) ^^^ 0x1021 else x <<< 1)
        (r ^^^ (v <<< (16 - w)))

/-- R80, R82, R84, R85: the check block on a data word. Covered words are fed; the check word is compared in its low W
bits and settles the staging list: released in order, each record marked verified, or discarded and counted. -/
def Obligations.CheckWordSettles : Prop :=
  ∀ (s : State) (i : LaneId) (x : Nat) (v : BitVec 16),
    let l := s.lane i
    let p := l.intake.profile
    let c := l.check
    let settled := fun st : CheckState =>
      { l with check := { c with state := some st, staging := [],
                                 discarded := BitVec.ofNat 8 (min 255 (c.discarded.toNat + c.staging.length)) } }
    (p.checkWord = 0 → s.checkWordNotice i x v = s) ∧
    (p.syncWords ≤ p.checkWord → p.checkWord ≠ 0 →
      (p.syncWords ≤ x → x < p.checkWord →
        s.checkWordNotice i x v = s.setLane i { l with check := { c with reg := crcBits v p.wordLen c.reg } }) ∧
      (x < p.syncWords ∨ p.checkWord < x → s.checkWordNotice i x v = s) ∧
      (x = p.checkWord → c.state = some .pending →
        (c.reg.toNat % 2 ^ p.wordLen = v.toNat → c.overflow = false →
          s.checkWordNotice i x v =
            c.staging.foldl (fun t g => t.deliver i g.queue { g.word with verified := true })
              (s.setLane i { l with check := { c with state := some .good, staging := [] } })) ∧
        (c.reg.toNat % 2 ^ p.wordLen = v.toNat → c.overflow = true →
          s.checkWordNotice i x v = s.setLane i (settled .good)) ∧
        (c.reg.toNat % 2 ^ p.wordLen ≠ v.toNat →
          s.checkWordNotice i x v = (s.setLane i (settled .bad)).post .checkBad (laneSource i))))

/-- R66 to R68: the segment walk of a data word, while the selector is open. The cursor comes to rest at the segment end
or on the first valid entry that names a later word, and every valid entry before it that names this word is evaluated,
in order of index, each once. Sync words, and an empty segment, evaluate nothing. -/
def Obligations.SegmentWalkEvaluates : Prop :=
  ∀ (s : State) (i : LaneId) (x : Nat) (v : BitVec 16),
    let l := s.lane i
    let p := l.intake.profile
    let sel := l.selector
    (sel.isOpen = false ∨ x < p.syncWords ∨ p.frameWords ≤ x ∨ sel.segStop = none → s.selectWord i x v = s) ∧
    (∀ e, sel.isOpen = true → p.syncWords ≤ x → x < p.frameWords → sel.segStop = some e → sel.cursor ≤ e →
      ∃ stop, sel.cursor ≤ stop ∧ stop ≤ e ∧
        (∀ k, sel.cursor ≤ k → k < stop →
          (s.entryAt sel.bank k).valid = false ∨ (s.entryAt sel.bank k).position ≤ x) ∧
        (stop < e → (s.entryAt sel.bank stop).valid = true ∧ x < (s.entryAt sel.bank stop).position) ∧
        s.selectWord i x v =
          (((List.range' sel.cursor (stop - sel.cursor)).filter fun k =>
              (s.entryAt sel.bank k).valid && decide ((s.entryAt sel.bank k).position = x)).foldl
            (fun t k => t.evaluateEntry i x v (s.entryAt sel.bank k)) s).mapLane i
            fun m => { m with selector := { m.selector with cursor := stop } })

/-- R69 to R72: what a valid entry that names the word does under each filter mode, at a known and at an unknown cycle
position; the word record it builds; and whether the record goes direct or is staged. -/
def Obligations.EntryEvaluated : Prop :=
  ∀ (s : State) (i : LaneId) (x : Nat) (v : BitVec 16) (e : SelEntry),
    let l := s.lane i
    let p := l.intake.profile
    let r : WordRecord :=
      { value := v, tag := e.tag, lane := i, coasted := decide (l.selector.kind = some .coast), verified := false,
        seq3 := l.selector.seq3 }
    let selects : Prop :=
      e.mode = .all ∨
      (∃ c, l.tracker.framePos = some c ∧
        ((e.mode = .atPos ∧ c = e.a) ∨
         (e.mode = .every ∧ 1 ≤ e.k.toNat ∧ c.toNat % e.k.toNat = e.a.toNat)))
    let withholds : Prop := (e.mode = .atPos ∨ e.mode = .every) ∧ l.tracker.framePos = none
    (¬selects → ¬withholds → s.evaluateEntry i x v e = s) ∧
    (withholds → s.evaluateEntry i x v e =
      s.setLane i { l with selector := { l.selector with
        withheld := if l.selector.withheld = 255 then 255 else l.selector.withheld + 1 } }) ∧
    (selects → (p.checkWord = 0 ∨ e.gated = false ∨ p.checkWord ≤ x) →
      s.evaluateEntry i x v e = s.deliver i e.queue r) ∧
    (selects → p.checkWord ≠ 0 → e.gated = true → x < p.checkWord →
      s.evaluateEntry i x v e = s.stageWord i { queue := e.queue, word := r })

/-- R83: a staged record joins the tail of the list, or is discarded and counted on a full list; the first one marks the
overflow and posts STAGE_OVERFLOW. -/
def Obligations.StagingListTakesWord : Prop :=
  ∀ (s : State) (i : LaneId) (g : Staged),
    let l := s.lane i
    let c := l.check
    let more : Byte := if c.discarded = 255 then 255 else c.discarded + 1
    (c.staging.length ≤ 31 →
      s.stageWord i g = s.setLane i { l with check := { c with staging := c.staging ++ [g] } }) ∧
    (32 ≤ c.staging.length → c.overflow = false →
      s.stageWord i g =
        (s.setLane i { l with check := { c with discarded := more, overflow := true } }).post .stageOverflow
          (laneSource i)) ∧
    (32 ≤ c.staging.length → c.overflow = true →
      s.stageWord i g = s.setLane i { l with check := { c with discarded := more } })

/-- R74, R116 to R119: a word record reaches its queue and is appended, evicts the head, is dropped, refused or
discarded, with its postings, and the lane's selector counts the answer. -/
def Obligations.WordReachesQueue : Prop :=
  ∀ (s : State) (i : LaneId) (q : QueueId) (r : WordRecord),
    let v := s.queue q
    let room : Prop := v.entries.length < v.quota ∧ 0 < s.queues.free
    let lost : BitVec 16 := if v.lost = 65535 then 65535 else v.lost + 1
    let counted := fun (t : State) (kept : Bool) => t.mapLane i fun m =>
      { m with selector :=
        if kept then { m.selector with
          delivered := if m.selector.delivered = 255 then 255 else m.selector.delivered + 1 }
        else { m.selector with
          queueLoss := if m.selector.queueLoss = 255 then 255 else m.selector.queueLoss + 1 } }
    (v.state = .opened → room →
      let t : State := { s.setQueue q { v with entries := v.entries ++ [r] } with queues.free := s.queues.free - 1 }
      let t := if v.entries.length + 1 = v.threshold then t.post .queueThreshold (queueSource q) else t
      let t := if s.queues.free = 1 then t.post .poolEmpty 0xFF else t
      s.deliver i q r = counted t true) ∧
    (∀ head rest, v.state = .opened → ¬room → v.policy = .dropOld → v.entries = head :: rest →
      s.deliver i q r =
        counted ((s.setQueue q { v with entries := rest ++ [r], lost := lost }).post .queueLoss (queueSource q)) true) ∧
    (v.state = .opened → ¬room → v.policy = .dropNew ∨ v.entries = [] →
      s.deliver i q r = counted ((s.setQueue q { v with lost := lost }).post .queueLoss (queueSource q)) false) ∧
    (v.state = .held →
      s.deliver i q r = counted ((s.setQueue q { v with lost := lost }).post .queueLoss (queueSource q)) false) ∧
    (v.state = .disabled → s.deliver i q r = counted s false)

/-- R148, R149: a posting is not entered while its cause is masked, appends a record of a pair that is not listed, and
otherwise raises the listed record's repeat count, which keeps its place and its first time. -/
def Obligations.PostingEntersList : Prop :=
  ∀ (s : State) (c : Cause) (src : Byte),
    let now : BitVec 16 := s.time.counter.extractLsb' 0 16
    (s.attn.masks.getLsbD (c.code - 1) = false → s.post c src = s) ∧
    (s.attn.masks.getLsbD (c.code - 1) = true →
      (∀ r ∈ s.attn.list, ¬(r.cause = c ∧ r.source = src)) →
      s.post c src =
        { s with attn.list := s.attn.list ++ [{ cause := c, source := src, count := 1, first := now }] }) ∧
    (∀ before r after, s.attn.masks.getLsbD (c.code - 1) = true → s.attn.list = before ++ r :: after →
      (∀ r' ∈ before, ¬(r'.cause = c ∧ r'.source = src)) → r.cause = c → r.source = src →
      s.post c src =
        { s with attn.list :=
            before ++ { r with count := if r.count = 255 then 255 else r.count + 1 } :: after })

/-! ### Ticks, silence and copy steps -/

/-- R143, R4: a tick advances the time counter and the silence counter of every running lane that is not silent, and then
the silence of every lane that has reached its limit expires. No rule gives the order of several expiries (log entry
2): they come in some order of the lanes concerned. -/
def Obligations.TickCounts : Prop :=
  ∀ s : State, s.resetLow = false →
    ∃ (order : List LaneId) (n : Nat),
      order.Nodup ∧ (∀ i, i ∈ order ↔ ExpiryDue ((tickedState s).lane i)) ∧
      exec .tick s = .next { order.foldl State.expireSilence (tickedState s) with choices := n, dataOut := none } ∧
      (order.length ≤ 1 → n = s.choices)

/-- R5, R39, R40: the silence of a lane expires, by its lock state. R4, R44, R102: it expires only in a tick, the one after
which the counter has reached a limit other than 0. SILENCE_EXPIRY is that tick (log entry 3): it answers as TICK does and
leaves the lane silent and in SEARCH. Where the next tick would not make the lane expire, the command changes nothing.
That the row names the tick, and that it otherwise changes nothing, are the model's choices (log entry 3). -/
def Obligations.SilenceExpires : Prop :=
  ∀ (s : State) (i : LaneId),
    let l := s.lane i
    let m : LaneState := { l with intake := { l.intake with silent := true } }
    let u := s.post .laneSilent (laneSource i)
    (l.engine.lock = .search → s.expireSilence i = u.setLane i m) ∧
    (l.engine.lock = .check →
      s.expireSilence i = (u.takeActive i).setLane i (searchingLane m s.tables.active)) ∧
    (∀ f, l.engine.lock = .lock ∨ l.engine.lock = .coast → l.engine.frame = some f →
      s.expireSilence i = abandonedState u i m f) ∧
    (s.resetLow = false →
      (ExpiryDue ((tickedState s).lane i) →
        exec (.silenceExpiry i) s = exec .tick s ∧
        ∃ t, exec (.silenceExpiry i) s = .next t ∧ t.time.counter = s.time.counter + 1 ∧
          (t.lane i).intake.silent = true ∧ (t.lane i).engine.lock = .search) ∧
      (ExpiryDue ((tickedState s).lane i) → (∀ j, j ≠ i → ¬ExpiryDue ((tickedState s).lane j)) →
        exec (.silenceExpiry i) s = .next { (tickedState s).expireSilence i with dataOut := none }) ∧
      (¬ExpiryDue ((tickedState s).lane i) → exec (.silenceExpiry i) s = .next { s with dataOut := none }))

/-- R104: a copy step while the copy is BUSY copies one record from the ACTIVE bank to the edit bank, advances the index,
and ends the copy with COPY_DONE at 260; every other byte of both banks reads as before. Without a BUSY copy there is
no step (log entry 6, the model's choice). -/
def Obligations.CopyStepCopiesRecord : Prop :=
  ∀ s : State, s.resetLow = false → s.tables.ram.wf = true →
    (s.tables.copying = false → exec .copyStep s = .next { s with dataOut := none }) ∧
    (s.tables.copying = true → ∃ m : Memory,
      let b := s.tables.active.other
      let x := s.tables.copyIdx
      (∀ k : Fin 6, m.read (recordAddr b x k) = s.tables.ram.read (recordAddr s.tables.active x k)) ∧
      (∀ a, (∀ k : Fin 6, a ≠ recordAddr b x k) → m.read a = s.tables.ram.read a) ∧
      (x ≠ 259 →
        exec .copyStep s = .next { s with tables.ram := m, tables.copyIdx := x + 1, dataOut := none }) ∧
      (x = 259 →
        exec .copyStep s = .next { { s with tables.ram := m, tables.copyIdx := 260, tables.copying := false }.post
          .copyDone 0xFF with dataOut := none }))

/-! ### Commands (R157) -/

/-- R14, R15: LANE_START of the lane that CARG names. -/
def Obligations.LaneStartCommand : Prop :=
  ∀ (s : State) (i : LaneId), s.resetLow = false → s.carg.toNat = i.val →
    let l := s.lane i
    let p := l.intake.profile
    (l.engine.lock = .off → MeetsStartConditions p →
      exec .laneStart s = .next { (s.takeActive i).setLane i
        { intake := { l.intake with
            hist := [], polarity := if p.polarityMode = 1 then .inverted else .normal, silence := 0, silent := false,
            slip := 0 },
          engine := { lock := .search, good := 0, bad := 0, bitPos := 0, late := none, frame := none, seq := 0 },
          tracker := { l.tracker with
            state := searchCycle p, miss := 0, prediction := none, framePos := none, frameState := none },
          selector := { l.selector with
            isOpen := false, segStop := none, kind := none, delivered := 0, queueLoss := 0, withheld := 0 },
          check := { reg := l.check.reg, state := none, staging := [], overflow := false, discarded := 0 },
          bankInUse := s.tables.active } with clast := 0x01, cstat := .done, dataOut := none }) ∧
    (l.engine.lock = .off → ¬MeetsStartConditions p →
      exec .laneStart s =
        .next { s with clast := 0x01, cstat := .refused .badProfile, dataOut := none }) ∧
    (l.engine.lock ≠ .off →
      exec .laneStart s =
        .next { s with clast := 0x01, cstat := .refused .wrongState, dataOut := none })

/-- R16, R39, R41: LANE_STOP of the lane that CARG names, in any state. A delivered frame ends ABANDONED; no lock
attention is posted. -/
def Obligations.LaneStopCommand : Prop :=
  ∀ (s : State) (i : LaneId), s.resetLow = false → s.carg.toNat = i.val →
    let l := s.lane i
    (l.engine.lock = .off →
      exec .laneStop s = .next { s.takeActive i with clast := 0x02, cstat := .done, dataOut := none }) ∧
    (l.engine.lock = .search ∨ l.engine.lock = .check → l.engine.frame = none →
      exec .laneStop s =
        .next { (s.takeActive i).setLane i (stoppedLane l s.tables.active) with
          clast := 0x02, cstat := .done, dataOut := none }) ∧
    (∀ f, l.engine.lock = .lock ∨ l.engine.lock = .coast → l.engine.frame = some f →
      exec .laneStop s =
        .next { ((offeredEnd s i l f .abandoned).takeActive i).setLane i (stoppedLane l s.tables.active) with
          clast := 0x02, cstat := .done, dataOut := none })

/-- R17, R39, R40: LANE_RESYNC of the lane that CARG names, by its lock state. -/
def Obligations.LaneResyncCommand : Prop :=
  ∀ (s : State) (i : LaneId), s.resetLow = false → s.carg.toNat = i.val →
    let l := s.lane i
    (l.engine.lock = .off →
      exec .laneResync s =
        .next { s with clast := 0x03, cstat := .refused .wrongState, dataOut := none }) ∧
    (l.engine.lock = .search →
      exec .laneResync s = .next { s with clast := 0x03, cstat := .done, dataOut := none }) ∧
    (l.engine.lock = .check →
      exec .laneResync s =
        .next { (s.takeActive i).setLane i (searchingLane l s.tables.active) with
          clast := 0x03, cstat := .done, dataOut := none }) ∧
    (∀ f, l.engine.lock = .lock ∨ l.engine.lock = .coast → l.engine.frame = some f →
      exec .laneResync s =
        .next { abandonedState s i l f with clast := 0x03, cstat := .done, dataOut := none })

/-- R100: TABLE_SWAP. ACTIVE becomes the other bank, lanes in OFF or SEARCH take it at once, the flag is set if another
lane is now pending, and SWAP_DONE is posted if none is. While a swap or a copy runs it is refused BUSY. -/
def Obligations.TableSwapCommand : Prop :=
  ∀ s : State, s.resetLow = false →
    let b := s.tables.active.other
    let moved := s.lanes.map fun l =>
      if l.engine.lock = .off ∨ l.engine.lock = .search then { l with bankInUse := b } else l
    let pending : Prop := ∃ i : LaneId,
      (s.lane i).engine.lock ≠ .off ∧ (s.lane i).engine.lock ≠ .search ∧ (s.lane i).bankInUse ≠ b
    (s.tables.swapping = true ∨ s.tables.copying = true →
      exec .tableSwap s = .next { s with clast := 0x10, cstat := .refused .busy, dataOut := none }) ∧
    (s.tables.swapping = false → s.tables.copying = false → pending →
      exec .tableSwap s = .next { s with
        tables.active := b, tables.swapping := true, lanes := moved, clast := 0x10, cstat := .started,
        dataOut := none }) ∧
    (s.tables.swapping = false → s.tables.copying = false → ¬pending →
      exec .tableSwap s = .next { { s with tables.active := b, lanes := moved }.post .swapDone 0xFF with
        clast := 0x10, cstat := .started, dataOut := none })

/-- R103: TABLE_COPY. -/
def Obligations.TableCopyCommand : Prop :=
  ∀ s : State, s.resetLow = false →
    (s.tables.swapping = true ∨ s.tables.copying = true →
      exec .tableCopy s = .next { s with clast := 0x11, cstat := .refused .busy, dataOut := none }) ∧
    (s.tables.swapping = false → s.tables.copying = false →
      exec .tableCopy s = .next { s with
        tables.copying := true, tables.copyAborted := false, tables.copyIdx := 0, clast := 0x11, cstat := .started,
        dataOut := none })

/-- R125 to R127: QUEUE_OPEN, QUEUE_HOLD and QUEUE_DISABLE of the queue that CARG names. -/
def Obligations.QueueCommands : Prop :=
  ∀ (s : State) (q : QueueId), s.resetLow = false → s.carg.toNat = q.val →
    let v := s.queue q
    exec .queueOpen s =
      .next { s.setQueue q { v with state := .opened } with clast := 0x20, cstat := .done, dataOut := none } ∧
    (v.state = .opened →
      exec .queueHold s =
        .next { s.setQueue q { v with state := .held } with clast := 0x21, cstat := .done, dataOut := none }) ∧
    (v.state = .held →
      exec .queueHold s = .next { s with clast := 0x21, cstat := .done, dataOut := none }) ∧
    (v.state = .disabled →
      exec .queueHold s =
        .next { s with clast := 0x21, cstat := .refused .wrongState, dataOut := none }) ∧
    exec .queueDisable s =
      .next { s.setQueue q { v with state := .disabled, entries := [] } with
        queues.free := s.queues.free + v.entries.length, clast := 0x22, cstat := .done, dataOut := none }

/-- R157, R158: a lane command with CARG above 3, a queue command with CARG above 7 and a code outside the table change
CLAST and CSTAT alone. A CMD write of a code in the table is that command. -/
def Obligations.CommandsRefused : Prop :=
  ∀ s : State, s.resetLow = false →
    (4 ≤ s.carg.toNat →
      exec .laneStart s = .next { s with clast := 0x01, cstat := .refused .badArg, dataOut := none } ∧
      exec .laneStop s = .next { s with clast := 0x02, cstat := .refused .badArg, dataOut := none } ∧
      exec .laneResync s = .next { s with clast := 0x03, cstat := .refused .badArg, dataOut := none }) ∧
    (8 ≤ s.carg.toNat →
      exec .queueOpen s = .next { s with clast := 0x20, cstat := .refused .badArg, dataOut := none } ∧
      exec .queueHold s = .next { s with clast := 0x21, cstat := .refused .badArg, dataOut := none } ∧
      exec .queueDisable s = .next { s with clast := 0x22, cstat := .refused .badArg, dataOut := none }) ∧
    (∀ code : Byte, code ∉ ([0x01, 0x02, 0x03, 0x10, 0x11, 0x20, 0x21, 0x22, 0x30, 0x31, 0x40, 0x7F] : List Byte) →
      exec (.commandBadCode code) s =
        .next { s with clast := code, cstat := .refused .badCode, dataOut := none }) ∧
    exec (.commandBadCode 0x01) s = exec .laneStart s ∧ exec (.commandBadCode 0x02) s = exec .laneStop s ∧
    exec (.commandBadCode 0x03) s = exec .laneResync s ∧ exec (.commandBadCode 0x10) s = exec .tableSwap s ∧
    exec (.commandBadCode 0x11) s = exec .tableCopy s ∧ exec (.commandBadCode 0x20) s = exec .queueOpen s ∧
    exec (.commandBadCode 0x21) s = exec .queueHold s ∧ exec (.commandBadCode 0x22) s = exec .queueDisable s ∧
    exec (.commandBadCode 0x30) s = exec .timeLatch s ∧ exec (.commandBadCode 0x31) s = exec .timeLoad s ∧
    exec (.commandBadCode 0x40) s = exec .recordsFlush s ∧ exec (.commandBadCode 0x7F) s = exec .softReset s

/-- R138: RECORDS_FLUSH removes every record and clears the pending-gap flag; the loss counter and the holding register
stay, nothing is posted, and the next read of RDATA0 gives the empty record. -/
def Obligations.RecordsFlushCommand : Prop :=
  ∀ s : State, s.resetLow = false →
    ∃ t : State,
      t = { s with records.list := [], records.gap := false, clast := 0x40, cstat := .done, dataOut := none } ∧
      exec .recordsFlush s = .next t ∧
      exec (.rdataRead 0) t = .next { t with records.hold := Vector.replicate 16 0, dataOut := some 0 }

/-- R159 with R19, R42, R48, R61, R88, R105, R106, R130, R139, R142, R153: what SOFT_RESET empties and what it keeps.
Nothing is posted, IRQ# is released, and both DRQ lines are inactive (thresholds being 1 or more, PoolIsConserved). -/
def Obligations.SoftResetCommand : Prop :=
  ∀ s : State, s.resetLow = false →
    ∃ t : State, exec .softReset s = .next t ∧
      (∀ i : LaneId, t.lane i =
        let l := stoppedLane (s.lane i) s.tables.active
        { l with intake := { l.intake with slip := 0 } }) ∧
      (∀ q : QueueId, t.queue q = { s.queue q with entries := [], lost := 0 }) ∧
      (∀ n : PortId, t.port n = { hold := #v[0, 0, 0, 0], idx := 0, bind := (s.port n).bind }) ∧
      t.queues = { s.queues with free := 1024, hostHold := #v[0, 0, 0, 0], queue := t.queues.queue,
                                 port := t.queues.port } ∧
      t.tables = { s.tables with
        swapping := false, copying := false, copyAborted := s.tables.copyAborted || s.tables.copying, wByte := 0,
        wStage := #v[0, 0, 0, 0, 0, 0], rByte := 0, rHold := #v[0, 0, 0, 0, 0, 0] } ∧
      t.records = { list := [], loss := 0, gap := false, hold := Vector.replicate 16 0 } ∧
      t.attn = { s.attn with list := [], hold := #v[0, 0, 0, 0, 0] } ∧
      t.time = s.time ∧ t.carg = s.carg ∧ t.cstat = .done ∧ t.clast = 0x7F ∧ t.lsel = s.lsel ∧ t.pidx = s.pidx ∧
      t.lseqLatch = s.lseqLatch ∧ t.resetLow = false ∧ t.dataOut = none ∧ t.choices = s.choices ∧
      t.pending = s.pending ∧ t.irqLow = false ∧
      ((∀ q : QueueId, 1 ≤ (s.queue q).threshold) → ∀ n : PortId, t.drq n = false)

/-! ### The profile port and the lane readouts -/

/-- R6 to R8, R37: LSEL takes 0 to 3 and PIDX 0 to 23; larger values are refused. A read of PDATA returns the stored byte
and advances PIDX, from 23 to 0. LSLIP returns and clears the slip counter of the lane that LSEL names; LSEQ reads the
sequence counter of that lane through the shared latch. -/
def Obligations.ProfilePortAndReadouts : Prop :=
  ∀ (s : State) (v : Byte), s.resetLow = false →
    let refused : State := { s.post .configRefused 0xFF with dataOut := none }
    let l := s.lane s.lsel
    (∀ i : LaneId, v.toNat = i.val → exec (.lselWrite v) s = .next { s with lsel := i, dataOut := none }) ∧
    (4 ≤ v.toNat → exec (.lselWrite v) s = .next refused) ∧
    (∀ k : Fin 24, v.toNat = k.val → exec (.pidxWrite v) s = .next { s with pidx := k, dataOut := none }) ∧
    (24 ≤ v.toNat → exec (.pidxWrite v) s = .next refused) ∧
    exec .pdataRead s = .next { s with
      pidx := if s.pidx = 23 then 0 else s.pidx + 1,
      dataOut := some (s.lane s.lsel).intake.profile.bytes[s.pidx] } ∧
    exec .lslipRead s =
      .next { s.setLane s.lsel { l with intake := { l.intake with slip := 0 } } with dataOut := some l.intake.slip } ∧
    exec (.lseqRead .low) s =
      .next { s with lseqLatch := l.engine.seq, dataOut := some (l.engine.seq.extractLsb' 0 8) } ∧
    exec (.lseqRead .high) s = .next { s with dataOut := some (s.lseqLatch.extractLsb' 8 8) }

/-- R9: a write of PDATA for an OFF lane. Byte 14 with record mode 3 is refused; a lower byte of a multi-byte field goes
to the holding place; a highest byte stores the whole field; any other byte is stored, but for bits 7 to 5 of byte 14
(R166). PIDX advances in every case. -/
def Obligations.PdataWriteOffLane : Prop :=
  ∀ (s : State) (v : Byte), s.resetLow = false → (s.lane s.lsel).engine.lock = .off →
    let k := s.pidx
    let next : Fin 24 := if k = 23 then 0 else k + 1
    let x := (s.lane s.lsel).intake
    let lower : Prop := ∃ f ∈ multiByteFields, f.1 ≤ k.val ∧ k.val < f.2
    (k = 14 → v.extractLsb' 3 2 = 3 →
      exec (.pdataWrite v) s = .next { s.post .configRefused 0xFF with pidx := next, dataOut := none }) ∧
    (lower →
      exec (.pdataWrite v) s = .next { s.setLane s.lsel { s.lane s.lsel with
        intake := { x with holding := x.holding.set k v } } with pidx := next, dataOut := none }) ∧
    (¬lower → ¬(k = 14 ∧ v.extractLsb' 3 2 = 3) →
      ∃ p : Profile,
        (∀ j : Fin 24, p.bytes[j] =
          if j = k then (if k = 14 then v &&& 0x1F else v)
          else if ∃ f ∈ multiByteFields, f.2 = k.val ∧ f.1 ≤ j.val ∧ j.val < f.2 then x.holding[j]
          else x.profile.bytes[j]) ∧
        exec (.pdataWrite v) s = .next { s.setLane s.lsel { s.lane s.lsel with
          intake := { x with profile := p } } with pidx := next, dataOut := none })

/-- R10, R11: a write of PDATA for a running lane. The structural bytes are refused; a live byte is stored if every field
in it is within range, and refused otherwise. PIDX advances in every case. -/
def Obligations.PdataWriteRunningLane : Prop :=
  ∀ (s : State) (v : Byte), s.resetLow = false → (s.lane s.lsel).engine.lock ≠ .off →
    let k := s.pidx
    let next : Fin 24 := if k = 23 then 0 else k + 1
    let x := (s.lane s.lsel).intake
    let bad : Prop :=
      k.val ≤ 11 ∨ 16 ≤ k.val ∨
      (k = 12 ∧ (7 < (v.extractLsb' 0 4).toNat ∨ 7 < (v.extractLsb' 4 4).toNat)) ∨
      (k = 13 ∧ v.extractLsb' 0 4 = 0) ∨
      (k = 14 ∧ (v.extractLsb' 0 2 ≠ x.profile.bytes[14].extractLsb' 0 2 ∨ v.extractLsb' 3 2 = 3))
    (bad → exec (.pdataWrite v) s = .next { s.post .configRefused 0xFF with pidx := next, dataOut := none }) ∧
    (¬bad →
      exec (.pdataWrite v) s = .next { s.setLane s.lsel { s.lane s.lsel with
        intake := { x with
          profile := { bytes := x.profile.bytes.set k (if k = 14 then v &&& 0x1F else v) } } } with
        pidx := next, dataOut := none })

/-! ### The table port -/

/-- R94, R98: TWIDX and TRIDX. A low byte is held; a high byte forms the cursor from its bit 0 and the held byte, and is
refused above 259; a read latches bit 8 at the low byte. -/
def Obligations.TableCursors : Prop :=
  ∀ (s : State) (v : Byte), s.resetLow = false →
    let refused : State := { s.post .configRefused 0xFF with dataOut := none }
    let w := (v.toNat % 2) * 256 + s.tables.wLow.toNat
    let r := (v.toNat % 2) * 256 + s.tables.rLow.toNat
    exec (.twidxWrite .low v) s = .next { s with tables.wLow := v, dataOut := none } ∧
    (∀ x : Fin 260, w = x.val → exec (.twidxWrite .high v) s = .next { s with
      tables.wIdx := x, tables.wByte := 0, tables.wStage := #v[0, 0, 0, 0, 0, 0], dataOut := none }) ∧
    (260 ≤ w → exec (.twidxWrite .high v) s = .next refused) ∧
    exec (.twidxRead .low) s = .next { s with
      tables.wLatch := decide (256 ≤ s.tables.wIdx.val), dataOut := some (BitVec.ofNat 8 s.tables.wIdx.val) } ∧
    exec (.twidxRead .high) s = .next { s with dataOut := some (if s.tables.wLatch then 1 else 0) } ∧
    exec (.tridxWrite .low v) s = .next { s with tables.rLow := v, dataOut := none } ∧
    (∀ x : Fin 260, r = x.val → exec (.tridxWrite .high v) s = .next { s with
      tables.rIdx := x, tables.rByte := 0, dataOut := none }) ∧
    (260 ≤ r → exec (.tridxWrite .high v) s = .next refused) ∧
    exec (.tridxRead .low) s = .next { s with
      tables.rLatch := decide (256 ≤ s.tables.rIdx.val), dataOut := some (BitVec.ofNat 8 s.tables.rIdx.val) } ∧
    exec (.tridxRead .high) s = .next { s with dataOut := some (if s.tables.rLatch then 1 else 0) }

/-- R95 to R97: a write of TWDATA. Bytes 0 to 4 are staged. Byte 5 commits: into the edit bank at TWIDX, a selection
entry without the seven low bits of byte 5 (R170), a directory record as base and 9-bit count, and every other byte of
both banks reads as before; or refused with TABLE_REFUSED while a swap or a copy runs. -/
def Obligations.TableCommit : Prop :=
  ∀ (s : State) (v : Byte), s.resetLow = false → s.tables.ram.wf = true →
    let g := s.tables.wStage
    let x := s.tables.wIdx
    let b := s.tables.active.other
    (∀ k : Fin 6, s.tables.wByte = k → k ≠ 5 →
      exec (.twdataWrite v) s = .next { s with
        tables.wStage := g.set k v, tables.wByte := k + 1, dataOut := none }) ∧
    (s.tables.wByte = 5 → (s.tables.swapping = true ∨ s.tables.copying = true) →
      exec (.twdataWrite v) s = .next { { s with tables.wByte := 0, tables.wStage := #v[0, 0, 0, 0, 0, 0] }.post
        .tableRefused 0xFF with dataOut := none }) ∧
    (s.tables.wByte = 5 → s.tables.swapping = false → s.tables.copying = false → ∃ m : Memory,
      (x.val ≤ 255 →
        m.readRecord b x.val = #v[g[0], g[1], g[2], g[3], g[4], v &&& 0x80]) ∧
      (256 ≤ x.val → m.readRecord b x.val = #v[g[0], g[1], g[2] &&& 1, 0, 0, 0]) ∧
      (∀ a, (∀ k : Fin 6, a ≠ recordAddr b x.val k) → m.read a = s.tables.ram.read a) ∧
      exec (.twdataWrite v) s = .next { s with
        tables.ram := m, tables.wIdx := if x = 259 then 0 else x + 1, tables.wByte := 0,
        tables.wStage := #v[0, 0, 0, 0, 0, 0], dataOut := none })

/-- R98, R99: TRBANK takes 0 or 1 and resets the read byte index; six reads of TRDATA return the record under the read
cursor, latched whole at byte 0, and the sixth advances TRIDX. -/
def Obligations.TablePortReads : Prop :=
  ∀ (s : State) (v : Byte), s.resetLow = false →
    let r := s.tables.ram.readRecord s.tables.rBank s.tables.rIdx.val
    (v = 0 → exec (.trbankWrite v) s = .next { s with tables.rBank := .bank0, tables.rByte := 0, dataOut := none }) ∧
    (v = 1 → exec (.trbankWrite v) s = .next { s with tables.rBank := .bank1, tables.rByte := 0, dataOut := none }) ∧
    (2 ≤ v.toNat → exec (.trbankWrite v) s = .next { s.post .configRefused 0xFF with dataOut := none }) ∧
    (s.tables.rByte = 0 →
      exec .trdataRead s = .next { s with tables.rHold := r, tables.rByte := 1, dataOut := some r[0] }) ∧
    (∀ k : Fin 6, s.tables.rByte = k → 1 ≤ k.val → k.val ≤ 4 →
      exec .trdataRead s = .next { s with tables.rByte := k + 1, dataOut := some s.tables.rHold[k] }) ∧
    (s.tables.rByte = 5 →
      exec .trdataRead s = .next { s with
        tables.rByte := 0, tables.rIdx := if s.tables.rIdx = 259 then 0 else s.tables.rIdx + 1,
        dataOut := some s.tables.rHold[5] })

/-! ### The queue registers, the pop ports and the DMA ports -/

/-- R111 to R114: QSEL, QQUOTA, QTHR and QMODE. -/
def Obligations.QueueSettingsWritten : Prop :=
  ∀ (s : State) (v : Byte), s.resetLow = false →
    let q := s.queue s.queues.qsel
    let refused : State := { s.post .configRefused 0xFF with dataOut := none }
    let quota := (v.toNat % 8) * 256 + s.queues.quotaLow.toNat
    let thr := (v.toNat % 8) * 256 + s.queues.thrLow.toNat
    let policy : Policy := if v.getLsbD 2 then .dropOld else .dropNew
    (∀ n : QueueId, v.toNat = n.val → exec (.qselWrite v) s = .next { s with queues.qsel := n, dataOut := none }) ∧
    (8 ≤ v.toNat → exec (.qselWrite v) s = .next refused) ∧
    exec (.qquotaWrite .low v) s = .next { s with queues.quotaLow := v, dataOut := none } ∧
    (q.state = .disabled → quota ≤ 1024 →
      exec (.qquotaWrite .high v) s =
        .next { s.setQueue s.queues.qsel { q with quota := quota } with dataOut := none }) ∧
    (q.state ≠ .disabled ∨ 1025 ≤ quota → exec (.qquotaWrite .high v) s = .next refused) ∧
    exec (.qthrWrite .low v) s = .next { s with queues.thrLow := v, dataOut := none } ∧
    (1 ≤ thr → thr ≤ 1024 →
      exec (.qthrWrite .high v) s =
        .next { s.setQueue s.queues.qsel { q with threshold := thr } with dataOut := none }) ∧
    (thr = 0 ∨ 1025 ≤ thr → exec (.qthrWrite .high v) s = .next refused) ∧
    (q.state = .disabled ∨ policy = q.policy →
      exec (.qmodeWrite v) s =
        .next { s.setQueue s.queues.qsel { q with policy := policy, drain := v.getLsbD 3 } with dataOut := none }) ∧
    (q.state ≠ .disabled → policy ≠ q.policy → exec (.qmodeWrite v) s = .next refused)

/-- R115, R119: QDEPTH, QLOST and POOLFREE. A low-byte read latches the whole value, and QLOST is then cleared; a
high-byte read returns the latch's high byte. -/
def Obligations.QueueCountsRead : Prop :=
  ∀ s : State, s.resetLow = false →
    let q := s.queue s.queues.qsel
    let d := BitVec.ofNat 16 q.entries.length
    let f := BitVec.ofNat 16 s.queues.free
    exec (.qdepthRead .low) s = .next { s with queues.depthLatch := d, dataOut := some (d.extractLsb' 0 8) } ∧
    exec (.qdepthRead .high) s = .next { s with dataOut := some (s.queues.depthLatch.extractLsb' 8 8) } ∧
    exec (.qlostRead .low) s =
      .next { s.setQueue s.queues.qsel { q with lost := 0 } with
        queues.lostLatch := q.lost, dataOut := some (q.lost.extractLsb' 0 8) } ∧
    exec (.qlostRead .high) s = .next { s with dataOut := some (s.queues.lostLatch.extractLsb' 8 8) } ∧
    exec (.poolfreeRead .low) s = .next { s with queues.freeLatch := f, dataOut := some (f.extractLsb' 0 8) } ∧
    exec (.poolfreeRead .high) s = .next { s with dataOut := some (s.queues.freeLatch.extractLsb' 8 8) }

/-- R120, R121, R171: a read of QDATA0 pops the queue that QSEL names into the host holding register, as the four bytes
of the word record or the empty record; QDATA1 to QDATA3 return the later bytes. -/
def Obligations.HostPops : Prop :=
  ∀ s : State, s.resetLow = false →
    let q := s.queue s.queues.qsel
    (∀ r rest, q.state ≠ .disabled → q.entries = r :: rest →
      ∃ h : Vector Byte 4,
        h[0] = r.value.extractLsb' 0 8 ∧ h[1] = r.value.extractLsb' 8 8 ∧ h[2] = r.tag ∧
        h[3].getLsbD 7 = true ∧ (h[3].extractLsb' 5 2).toNat = r.lane.val ∧ h[3].getLsbD 4 = r.coasted ∧
        h[3].getLsbD 3 = r.verified ∧ h[3].extractLsb' 0 3 = r.seq3 ∧
        exec (.qdataRead 0) s =
          .next { s.setQueue s.queues.qsel { q with entries := rest } with
            queues.free := s.queues.free + 1, queues.hostHold := h, dataOut := some h[0] }) ∧
    (q.state = .disabled ∨ q.entries = [] →
      exec (.qdataRead 0) s = .next { s with queues.hostHold := #v[0, 0, 0, 0], dataOut := some 0 }) ∧
    (∀ k : Fin 4, k ≠ 0 → exec (.qdataRead k) s = .next { s with dataOut := some s.queues.hostHold[k] })

/-- R124: DBINDn binds a port to a queue or to none, resets its byte index and keeps its holding register; DRQn is
asserted exactly while the bound queue is OPEN or HELD and at its threshold, or draining and not empty. -/
def Obligations.DmaBindingAndRequest : Prop :=
  ∀ (s : State) (n : PortId) (v : Byte), s.resetLow = false →
    let p := s.port n
    (∀ q : QueueId, v.toNat = q.val →
      exec (.dbindWrite n v) s = .next { s.setPort n { hold := p.hold, idx := 0, bind := some q } with
        dataOut := none }) ∧
    (v = 0x80 →
      exec (.dbindWrite n v) s = .next { s.setPort n { hold := p.hold, idx := 0, bind := none } with
        dataOut := none }) ∧
    (8 ≤ v.toNat → v ≠ 0x80 →
      exec (.dbindWrite n v) s = .next { s.post .configRefused 0xFF with dataOut := none }) ∧
    (s.drq n = true ↔ ∃ q, p.bind = some q ∧ ((s.queue q).state = .opened ∨ (s.queue q).state = .held) ∧
      ((s.queue q).threshold ≤ (s.queue q).entries.length ∨
        ((s.queue q).drain = true ∧ 1 ≤ (s.queue q).entries.length)))

/-- R120, R122, R123, R155: an addressed read of byte k of a DMA port, and an acknowledge read at the port's byte index. Byte 0
pops the bound queue into the port's holding register, or takes the empty record; the index then goes on by one, from
3 to 0. The acknowledge read does what the addressed read of the byte at the index does. A read strobe with both
acknowledges low drives 00h, any other strobe drives nothing, and neither changes anything. -/
def Obligations.DmaPortReads : Prop :=
  ∀ (s : State) (n : PortId), s.resetLow = false →
    let p := s.port n
    (∀ q r rest, p.bind = some q → (s.queue q).state ≠ .disabled → (s.queue q).entries = r :: rest →
      exec (.ddataRead n 0) s = .next { ({ s with queues.free := s.queues.free + 1 }.setQueue q
          { s.queue q with entries := rest }).setPort n { hold := r.bytes, idx := 1, bind := some q } with
        dataOut := some (r.value.extractLsb' 0 8) }) ∧
    ((∀ q, p.bind = some q → (s.queue q).state = .disabled ∨ (s.queue q).entries = []) →
      exec (.ddataRead n 0) s =
        .next { s.setPort n { hold := #v[0, 0, 0, 0], idx := 1, bind := p.bind } with dataOut := some 0 }) ∧
    (∀ k : Fin 4, k ≠ 0 →
      exec (.ddataRead n k) s =
        .next { s.setPort n { hold := p.hold, idx := if k = 3 then 0 else k + 1, bind := p.bind } with
          dataOut := some p.hold[k] }) ∧
    (∃ t, exec (.dmaAcknowledgeRead (.read n)) s = .next t ∧ exec (.ddataRead n p.idx) s = .next t) ∧
    exec (.dmaAcknowledgeRead .readBoth) s = .next { s with dataOut := some 0 } ∧
    exec (.dmaAcknowledgeRead .write) s = .next { s with dataOut := none } ∧
    exec (.dmaAcknowledgeRead .readAndWrite) s = .next { s with dataOut := none } ∧
    exec (.dmaAcknowledgeRead .noStrobe) s = .next { s with dataOut := none }

/-! ### Frame records, time and attentions -/

/-- R136, R137, R172: a read of RDATA0 pops the oldest frame record into the holding register, or gives 16 bytes of 0; the
other bytes read the register; RLOSS returns the loss counter and clears it. The sixteen bytes carry the record's
fields as R172 lays them out, valid 1. -/
def Obligations.FrameRecordPopAndLayout : Prop :=
  ∀ s : State, s.resetLow = false →
    (∀ r rest, s.records.list = r :: rest →
      exec (.rdataRead 0) s =
        .next { s with records.list := rest, records.hold := r.bytes, dataOut := some r.bytes[0] }) ∧
    (s.records.list = [] →
      exec (.rdataRead 0) s = .next { s with records.hold := Vector.replicate 16 0, dataOut := some 0 }) ∧
    (∀ k : Fin 16, k ≠ 0 → exec (.rdataRead k) s = .next { s with dataOut := some s.records.hold[k] }) ∧
    exec .rlossRead s = .next { s with records.loss := 0, dataOut := some s.records.loss } ∧
    (∀ r : FrameRecord,
      let h := r.bytes
      h[0].getLsbD 7 = true ∧ (h[0].extractLsb' 0 2).toNat = r.lane.val ∧
      (h[0].extractLsb' 2 2 = match r.kind with
        | .confirm => 1
        | .lock => 2
        | .coast => 3) ∧
      (h[0].extractLsb' 4 3 = match r.endClass with
        | .normal => 0
        | .short => 1
        | .long => 2
        | .unconfirmed => 3
        | .abandoned => 4) ∧
      h[1].extractLsb' 0 4 = r.errors ∧ h[1].getLsbD 6 = r.inverted ∧ h[1].getLsbD 7 = r.gap ∧
      (h[1].extractLsb' 4 2 = match r.result with
        | .noCheck => 0
        | .good => 1
        | .bad => 2
        | .unchecked => 3) ∧
      h[2] = r.seq.extractLsb' 0 8 ∧ h[3] = r.seq.extractLsb' 8 8 ∧ h[4] = r.cyclePos ∧
      (h[5].extractLsb' 0 2 = match r.cycleState with
        | .search => 0
        | .verify => 1
        | .lock => 2
        | .counted => 3) ∧
      h[5].getLsbD 2 = r.overflow ∧ h[5].extractLsb' 5 3 = 0 ∧
      (h[5].extractLsb' 3 2 = match r.slip with
        | .none => 0
        | .early => 1
        | .late => 2) ∧
      (∀ k : Fin 6, h[6 + k.val]? = some (r.timeTag.extractLsb' (8 * k.val) 8)) ∧
      h[12] = r.delivered ∧ h[13] = r.queueLoss ∧ h[14] = r.withheld ∧ h[15] = r.discarded)

/-- R144 to R146: TIME_LATCH captures the counter. A read of TIME0 latches the counter, or with a capture waiting
returns its byte 0 and clears the flag; the other bytes read the latch. TIME_LOAD copies the preset into the counter,
byte k into bits 8k to 8k+7. -/
def Obligations.TimeLatchLoadAndReads : Prop :=
  ∀ s : State, s.resetLow = false →
    exec .timeLatch s =
      .next { s with time.latch := s.time.counter, time.waiting := true, clast := 0x30, cstat := .done,
                     dataOut := none } ∧
    (∃ n : BitVec 48, (∀ k : Fin 6, n.extractLsb' (8 * k.val) 8 = s.time.preset[k]) ∧
      exec .timeLoad s = .next { s with time.counter := n, clast := 0x31, cstat := .done, dataOut := none }) ∧
    (s.time.waiting = false →
      exec (.timeRead 0) s =
        .next { s with time.latch := s.time.counter, dataOut := some (s.time.counter.extractLsb' 0 8) }) ∧
    (s.time.waiting = true →
      exec (.timeRead 0) s =
        .next { s with time.waiting := false, dataOut := some (s.time.latch.extractLsb' 0 8) }) ∧
    (∀ k : Fin 6, k ≠ 0 →
      exec (.timeRead k) s = .next { s with dataOut := some (s.time.latch.extractLsb' (8 * k.val) 8) })

/-- R150, R151, R173: a read of ADATA0 pops the head attention record into the holding register, as cause, source, count
and first time, or gives five bytes of 0; the other bytes read the register; IRQ# is low exactly while the list holds a
record. -/
def Obligations.AttentionReads : Prop :=
  ∀ s : State, s.resetLow = false →
    (s.irqLow = true ↔ s.attn.list ≠ []) ∧
    (∀ r rest, s.attn.list = r :: rest →
      exec (.adataRead 0) s = .next { s with
        attn.list := rest,
        attn.hold := #v[BitVec.ofNat 8 r.cause.code, r.source, r.count, r.first.extractLsb' 0 8,
          r.first.extractLsb' 8 8],
        dataOut := some (BitVec.ofNat 8 r.cause.code) }) ∧
    (s.attn.list = [] →
      exec (.adataRead 0) s = .next { s with attn.hold := #v[0, 0, 0, 0, 0], dataOut := some 0 }) ∧
    (∀ k : Fin 5, k ≠ 0 → exec (.adataRead k) s = .next { s with dataOut := some s.attn.hold[k] })

/-! ### Bus accesses -/

/-- R154, R156, R146, R149, R166: the registers without a command of their own. CARG, the time preset and the admission
masks store the byte written; a write to a read-only register or to an unassigned address is ignored; RD# and WR#
together, and any strobe with CS# high, do nothing. -/
def Obligations.RegisterWrites : Prop :=
  ∀ (s : State) (a : Addr) (v : Byte), s.resetLow = false →
    exec (.registerWrite .write 0x01 v) s = .next { s with carg := v, dataOut := none } ∧
    (∀ k : Fin 6, exec (.registerWrite .write (BitVec.ofNat 7 (0x58 + k.val)) v) s =
      .next { s with time.preset := s.time.preset.set k v, dataOut := none }) ∧
    (∀ k : Fin 3, ∃ m : BitVec 17,
      (∀ b, m.getLsbD b =
        if 8 * k.val ≤ b ∧ b < 8 * k.val + 8 then (v.getLsbD (b - 8 * k.val) && decide (b < 17))
        else s.attn.masks.getLsbD b) ∧
      exec (.registerWrite .write (BitVec.ofNat 7 (0x60 + k.val)) v) s =
        .next { s with attn.masks := m, dataOut := none }) ∧
    ((a.toNat ∈ [0x02, 0x03, 0x04, 0x05, 0x06, 0x07, 0x08, 0x09, 0x0A, 0x0B, 0x0F, 0x10, 0x11, 0x12, 0x13, 0x17, 0x1A,
        0x1C, 0x1D, 0x1E, 0x1F, 0x63] ∨ (0x26 ≤ a.toNat ∧ a.toNat ≤ 0x2F) ∨ (0x32 ≤ a.toNat ∧ a.toNat ≤ 0x57) ∨
        (0x5E ≤ a.toNat ∧ a.toNat ≤ 0x5F) ∨ (0x64 ≤ a.toNat ∧ a.toNat ≤ 0x7F)) →
      exec (.registerWrite .write a v) s = .next { s with dataOut := none }) ∧
    exec (.registerWrite .readAndWrite a v) s = .next { s with dataOut := none } ∧
    exec (.registerWrite .unselected a v) s = .next { s with dataOut := none }

/-- R164: an access to the address of a register with commands of its own is that command. -/
def Obligations.RegisterMapAgrees : Prop :=
  ∀ (s : State) (v : Byte),
    exec (.registerWrite .write 0x00 v) s = exec (.commandBadCode v) s ∧
    exec (.registerWrite .write 0x0C v) s = exec (.lselWrite v) s ∧
    exec (.registerWrite .write 0x0D v) s = exec (.pidxWrite v) s ∧
    exec (.registerWrite .write 0x0E v) s = exec (.pdataWrite v) s ∧
    exec (.registerWrite .read 0x0E v) s = exec .pdataRead s ∧
    exec (.registerWrite .read 0x0F v) s = exec .lslipRead s ∧
    exec (.registerWrite .write 0x16 v) s = exec (.twdataWrite v) s ∧
    exec (.registerWrite .read 0x1A v) s = exec .trdataRead s ∧
    exec (.registerWrite .write 0x1B v) s = exec (.trbankWrite v) s ∧
    exec (.registerWrite .write 0x20 v) s = exec (.qselWrite v) s ∧
    exec (.registerWrite .write 0x21 v) s = exec (.qmodeWrite v) s ∧
    exec (.registerWrite .read 0x51 v) s = exec .rlossRead s ∧
    (∀ h : Half, let d := if h = .low then 0 else 1
      exec (.registerWrite .read (BitVec.ofNat 7 (0x10 + d)) v) s = exec (.lseqRead h) s ∧
      exec (.registerWrite .write (BitVec.ofNat 7 (0x14 + d)) v) s = exec (.twidxWrite h v) s ∧
      exec (.registerWrite .read (BitVec.ofNat 7 (0x14 + d)) v) s = exec (.twidxRead h) s ∧
      exec (.registerWrite .write (BitVec.ofNat 7 (0x18 + d)) v) s = exec (.tridxWrite h v) s ∧
      exec (.registerWrite .read (BitVec.ofNat 7 (0x18 + d)) v) s = exec (.tridxRead h) s ∧
      exec (.registerWrite .write (BitVec.ofNat 7 (0x22 + d)) v) s = exec (.qquotaWrite h v) s ∧
      exec (.registerWrite .write (BitVec.ofNat 7 (0x24 + d)) v) s = exec (.qthrWrite h v) s ∧
      exec (.registerWrite .read (BitVec.ofNat 7 (0x26 + d)) v) s = exec (.qdepthRead h) s ∧
      exec (.registerWrite .read (BitVec.ofNat 7 (0x28 + d)) v) s = exec (.qlostRead h) s ∧
      exec (.registerWrite .read (BitVec.ofNat 7 (0x2A + d)) v) s = exec (.poolfreeRead h) s) ∧
    (∀ k : Fin 4, exec (.registerWrite .read (BitVec.ofNat 7 (0x2C + k.val)) v) s = exec (.qdataRead k) s) ∧
    (∀ n : PortId, exec (.registerWrite .write (BitVec.ofNat 7 (0x30 + n.val)) v) s = exec (.dbindWrite n v) s ∧
      ∀ k : Fin 4,
        exec (.registerWrite .read (BitVec.ofNat 7 (0x34 + 4 * n.val + k.val)) v) s = exec (.ddataRead n k) s) ∧
    (∀ k : Fin 16, exec (.registerWrite .read (BitVec.ofNat 7 (0x40 + k.val)) v) s = exec (.rdataRead k) s) ∧
    (∀ k : Fin 6, exec (.registerWrite .read (BitVec.ofNat 7 (0x58 + k.val)) v) s = exec (.timeRead k) s) ∧
    (∀ k : Fin 5, exec (.registerWrite .read (BitVec.ofNat 7 (0x64 + k.val)) v) s = exec (.adataRead k) s)

/-- R154, R164, R167, R168: the registers whose read changes nothing, and what each returns. -/
def Obligations.PlainRegisterReads : Prop :=
  ∀ (s : State) (v : Byte), s.resetLow = false →
    let reads := fun (a : Addr) (d : Byte) => exec (.registerWrite .read a v) s = .next { s with dataOut := some d }
    let q := s.queue s.queues.qsel
    reads 0x00 0 ∧ reads 0x01 s.carg ∧
    reads 0x02 (match s.cstat with
      | .noCommand => 0x00
      | .done => 0x20
      | .started => 0x40
      | .refused .badCode => 0x61
      | .refused .badArg => 0x62
      | .refused .wrongState => 0x63
      | .refused .busy => 0x64
      | .refused .badProfile => 0x65) ∧
    reads 0x03 s.clast ∧
    (∃ d : Byte, reads 0x04 d ∧ d.getLsbD 0 = decide (s.tables.active = .bank1) ∧ d.getLsbD 1 = s.tables.swapping ∧
      d.getLsbD 2 = s.tables.copying ∧ d.getLsbD 3 = s.tables.copyAborted ∧
      d.getLsbD 4 = decide (s.queues.free = 0) ∧ d.getLsbD 5 = decide (s.attn.list ≠ []) ∧ d.extractLsb' 6 2 = 0) ∧
    (∀ i : LaneId, ∃ d : Byte, reads (BitVec.ofNat 7 (0x08 + i.val)) d ∧
      (d.extractLsb' 0 3 = match (s.lane i).engine.lock with
        | .off => 0
        | .search => 1
        | .check => 2
        | .lock => 3
        | .coast => 4) ∧
      d.getLsbD 3 = decide ((s.lane i).intake.polarity = .inverted) ∧ d.getLsbD 4 = (s.lane i).intake.silent ∧
      (d.extractLsb' 5 2 = match (s.lane i).tracker.state with
        | .search => 0
        | .verify => 1
        | .lock => 2
        | .counted => 3) ∧
      d.getLsbD 7 = decide ((s.lane i).bankInUse ≠ s.tables.active)) ∧
    reads 0x0C (BitVec.ofNat 8 s.lsel.val) ∧ reads 0x0D (BitVec.ofNat 8 s.pidx.val) ∧ reads 0x16 0 ∧
    reads 0x17 (BitVec.ofNat 8 s.tables.wByte.val) ∧
    reads 0x1B (if s.tables.rBank = .bank0 then 0 else 1) ∧ reads 0x20 (BitVec.ofNat 8 s.queues.qsel.val) ∧
    (∃ d : Byte, reads 0x21 d ∧
      (d.extractLsb' 0 2 = match q.state with
        | .disabled => 0
        | .opened => 1
        | .held => 2) ∧
      d.getLsbD 2 = decide (q.policy = .dropOld) ∧ d.getLsbD 3 = q.drain ∧ d.extractLsb' 4 4 = 0) ∧
    reads 0x22 (BitVec.ofNat 8 q.quota) ∧ reads 0x23 (BitVec.ofNat 8 (q.quota / 256)) ∧
    reads 0x24 (BitVec.ofNat 8 q.threshold) ∧ reads 0x25 (BitVec.ofNat 8 (q.threshold / 256)) ∧
    (∀ n : PortId, reads (BitVec.ofNat 7 (0x30 + n.val)) (match (s.port n).bind with
      | none => 0x80
      | some x => BitVec.ofNat 8 x.val)) ∧
    reads 0x50 (BitVec.ofNat 8 s.records.list.length) ∧ reads 0x63 (BitVec.ofNat 8 s.attn.list.length) ∧
    (∀ k : Fin 3, ∃ d : Byte, reads (BitVec.ofNat 7 (0x60 + k.val)) d ∧
      ∀ b, b < 8 → d.getLsbD b = s.attn.masks.getLsbD (8 * k.val + b)) ∧
    (∀ a : Addr, a.toNat ∈ [0x05, 0x06, 0x07, 0x12, 0x13, 0x1C, 0x1D, 0x1E, 0x1F, 0x32, 0x33, 0x3C, 0x3D, 0x3E, 0x3F,
        0x52, 0x53, 0x54, 0x55, 0x56, 0x57, 0x5E, 0x5F] ∨ 0x69 ≤ a.toNat → reads a 0)

/-! ### What every step keeps -/

/-- The invariants of Sys2Proof/Safety.lean hold after hardware reset. -/
def Obligations.ResetMeetsInvariants : Prop := Inv State.reset

/-- R20, R27, R40, R47, R48, R56, R57, R60, R61, R64, R78, R83: in every lane a frame is in progress exactly in LOCK and
COAST, and the cycle tracker, the selector and the check block have it open exactly then; the tracker's position is known
exactly in a CY_LOCK or CY_COUNTED frame, and is then its prediction; every step keeps this. -/
def Obligations.FramesStaySound : Prop :=
  ∀ s t : State, FramesOk s → step s = .next t → FramesOk t

/-- R10, R11, R14, R45, R49, R55, R60 and the windows of R22, R26, R27: a running lane's profile meets the conditions of
LANE_START, its cycle state belongs to its mode, its miss count is 0 or 1, its bit position lies in the frame, and the
windows it tests exist; every step keeps this. -/
def Obligations.RunningLanesStaySound : Prop :=
  ∀ s t : State, LanesStarted s → step s = .next t → LanesStarted t

/-- R2, R83, R134: no history holds more than 33 bits, no staging list more than 32 records, the frame record queue no
more than 64; and the table store stays in canonical form. Every step keeps this. -/
def Obligations.CapacitiesHold : Prop :=
  ∀ s t : State, CapacitiesOk s → step s = .next t → CapacitiesOk t

/-- R110, R112, R113: the eight depths and the free count sum to 1024, no depth exceeds its quota, a DISABLED queue is
empty, quotas and thresholds stay in range; every step keeps this. -/
def Obligations.PoolIsConserved : Prop :=
  ∀ s t : State, PoolOk s → step s = .next t → PoolOk t

/-- R93, R100 to R104: the swap-in-progress flag is set exactly while a lane's bank differs from ACTIVE, such a lane is in
CHECK, LOCK or COAST, and a swap and a copy never run together; every step keeps this. -/
def Obligations.SwapStaysSound : Prop :=
  ∀ s t : State, SwapOk s → step s = .next t → SwapOk t

/-- R147, R148: no two attention records have one cause and source, each source is one that its cause carries, and the
counts are 1 to 255, so the list never holds more than 58 records; every step keeps this. -/
def Obligations.AttentionListStaysSound : Prop :=
  (∀ s t : State, AttentionOk s → step s = .next t → AttentionOk t) ∧
  (∀ s : State, AttentionOk s → s.attn.list.length ≤ 58)

/-- R64, R96, R104: no command but hardware reset changes a byte of the bank that a lane's open frame selects from, or of
the ACTIVE bank. -/
def Obligations.FrameBankStaysStable : Prop :=
  ∀ (c : Instr) (s t : State), FramesOk s → SwapOk s → c ≠ .hardwareReset → exec c s = .next t →
    (∀ (x : Nat) (k : Fin 6), x < 260 →
      t.tables.ram.read (recordAddr s.tables.active x k) = s.tables.ram.read (recordAddr s.tables.active x k)) ∧
    (∀ (i : LaneId) (x : Nat) (k : Fin 6), (s.lane i).selector.isOpen = true → x < 260 →
      t.tables.ram.read (recordAddr (s.lane i).selector.bank x k) =
        s.tables.ram.read (recordAddr (s.lane i).selector.bank x k))

/-- R8, R13: a profile byte or a holding place changes only by a write of PDATA, in the lane that LSEL names, and by
hardware reset. -/
def Obligations.ProfilesChangeByHostOnly : Prop :=
  ∀ (c : Instr) (s t : State) (i : LaneId), exec c s = .next t →
    ((t.lane i).intake.profile ≠ (s.lane i).intake.profile ∨ (t.lane i).intake.holding ≠ (s.lane i).intake.holding) →
    c = .hardwareReset ∨
    (i = s.lsel ∧ ∃ v, c = .pdataWrite v ∨ c = .registerWrite .write 0x0E v)
end

