-- ==== Sys2Proof/Laws/Cycle.lean ====
section
/-! SUPPORT. The cycle tracker's frame fields: every operation of the tracker keeps `TrackerOk`, a frame start opens the
fields and a frame end closes them. -/

namespace Sys2Proof

open Sys2Proof.Machine

variable (p : Profile) (t : Tracker)

/-- A tracker without an open frame is sound, whatever its cycle state. -/
theorem TrackerOk.closed (h : t.frameState = none) (hp : t.prediction = none) (hf : t.framePos = none) :
    TrackerOk t := by
  constructor <;> simp [h, hp, hf]

theorem TrackerOk.closeFrame : TrackerOk t.closeFrame := TrackerOk.closed _ rfl rfl rfl

@[simp] theorem Tracker.closeFrame_frameState : t.closeFrame.frameState = none := rfl

/-- A frame start leaves the fields sound, from any tracker. -/
theorem TrackerOk.startFrame (kind : StartKind) : TrackerOk (t.startFrame p kind) := by
  unfold Tracker.startFrame
  split
  · constructor <;> cases h : t.state <;> simp [Tracker.startMarked, h]
  · constructor <;> simp [Tracker.startCounted]

/-- A frame start gives the frame a cycle state. -/
theorem Tracker.startFrame_frameState (kind : StartKind) : (t.startFrame p kind).frameState.isSome = true := by
  unfold Tracker.startFrame
  split
  · cases h : t.state <;> simp [Tracker.startMarked, h]
  · simp [Tracker.startCounted]

/-- A counter word changes the cycle state, the last position and the miss count alone. -/
theorem Tracker.counter_fields (v : Nat) :
    (t.counter p v).1.prediction = t.prediction ∧ (t.counter p v).1.framePos = t.framePos ∧
    (t.counter p v).1.frameState = t.frameState := by
  unfold Tracker.counter
  cases t.state <;> (repeat' split) <;> simp

/-- A counter word enters CY_LOCK only by a prediction that it confirms, or stays in it. -/
theorem Tracker.counter_lock (v : Nat) (h : (t.counter p v).1.state = .lock) :
    t.state = .lock ∨ t.prediction.isSome = true := by
  unfold Tracker.counter at h
  cases hs : t.state <;> simp only [hs] at h <;> (repeat' split at h) <;> simp_all

theorem TrackerOk.counter {t : Tracker} (h : TrackerOk t) (v : Nat) : TrackerOk (t.counter p v).1 := by
  obtain ⟨hp, hf, hs⟩ := Tracker.counter_fields p t v
  constructor
  · simpa [hf, hs] using h.known
  · simpa [hp, hs] using h.predicted
  · simpa [hf, hp] using h.offered
  · intro ho hl
    rw [hs] at ho
    rw [hp]
    exact (Tracker.counter_lock p t v hl).elim (h.locked ho) id

/-- A search entry leaves the frame fields, and never enters CY_LOCK. -/
theorem TrackerOk.searchEntry {t : Tracker} (h : TrackerOk t) : TrackerOk (t.searchEntry p) := by
  refine ⟨h.known, h.predicted, h.offered, fun _ hl => ?_⟩
  unfold Tracker.searchEntry at hl
  split at hl <;> cases hl

end Sys2Proof
end

