-- ==== Sys2Proof/Laws/State.lean ====
section
/-! SUPPORT. The small lemmas of the state's updates: what each leaves as it was, and reading back what was written. -/

namespace Sys2Proof.Machine

variable (s : State) (i j : LaneId) (l : LaneState) (f : LaneState → LaneState) (q r : QueueId) (v : Queue)
  (n m : PortId) (p : DmaPort) (c : Cause) (src : Byte)

/-! ### Lanes -/

@[simp] theorem State.setLane_lanes : (s.setLane i l).lanes = s.lanes.set i l := rfl
@[simp] theorem State.setLane_tables : (s.setLane i l).tables = s.tables := rfl
@[simp] theorem State.setLane_queues : (s.setLane i l).queues = s.queues := rfl
@[simp] theorem State.setLane_records : (s.setLane i l).records = s.records := rfl
@[simp] theorem State.setLane_time : (s.setLane i l).time = s.time := rfl
@[simp] theorem State.setLane_attn : (s.setLane i l).attn = s.attn := rfl
@[simp] theorem State.setLane_carg : (s.setLane i l).carg = s.carg := rfl
@[simp] theorem State.setLane_cstat : (s.setLane i l).cstat = s.cstat := rfl
@[simp] theorem State.setLane_clast : (s.setLane i l).clast = s.clast := rfl
@[simp] theorem State.setLane_lsel : (s.setLane i l).lsel = s.lsel := rfl
@[simp] theorem State.setLane_pidx : (s.setLane i l).pidx = s.pidx := rfl
@[simp] theorem State.setLane_lseqLatch : (s.setLane i l).lseqLatch = s.lseqLatch := rfl
@[simp] theorem State.setLane_resetLow : (s.setLane i l).resetLow = s.resetLow := rfl
@[simp] theorem State.setLane_dataOut : (s.setLane i l).dataOut = s.dataOut := rfl
@[simp] theorem State.setLane_choices : (s.setLane i l).choices = s.choices := rfl
@[simp] theorem State.setLane_pending : (s.setLane i l).pending = s.pending := rfl

@[simp] theorem State.mapLane_tables : (s.mapLane i f).tables = s.tables := rfl
@[simp] theorem State.mapLane_queues : (s.mapLane i f).queues = s.queues := rfl
@[simp] theorem State.mapLane_records : (s.mapLane i f).records = s.records := rfl
@[simp] theorem State.mapLane_time : (s.mapLane i f).time = s.time := rfl
@[simp] theorem State.mapLane_attn : (s.mapLane i f).attn = s.attn := rfl
@[simp] theorem State.mapLane_carg : (s.mapLane i f).carg = s.carg := rfl
@[simp] theorem State.mapLane_cstat : (s.mapLane i f).cstat = s.cstat := rfl
@[simp] theorem State.mapLane_clast : (s.mapLane i f).clast = s.clast := rfl
@[simp] theorem State.mapLane_lsel : (s.mapLane i f).lsel = s.lsel := rfl
@[simp] theorem State.mapLane_pidx : (s.mapLane i f).pidx = s.pidx := rfl
@[simp] theorem State.mapLane_lseqLatch : (s.mapLane i f).lseqLatch = s.lseqLatch := rfl
@[simp] theorem State.mapLane_resetLow : (s.mapLane i f).resetLow = s.resetLow := rfl
@[simp] theorem State.mapLane_dataOut : (s.mapLane i f).dataOut = s.dataOut := rfl
@[simp] theorem State.mapLane_choices : (s.mapLane i f).choices = s.choices := rfl
@[simp] theorem State.mapLane_pending : (s.mapLane i f).pending = s.pending := rfl

@[simp] theorem State.lane_setLane_self : (s.setLane i l).lane i = l := by
  simp [State.setLane, State.lane]

theorem State.lane_setLane_ne (h : j ≠ i) : (s.setLane i l).lane j = s.lane j := by
  have : i.val ≠ j.val := fun e => h (Fin.ext e.symm)
  simp [State.setLane, State.lane, this]

theorem State.lane_setLane : (s.setLane i l).lane j = if j = i then l else s.lane j := by
  by_cases h : j = i
  · subst h; simp
  · simp [h, State.lane_setLane_ne]

@[simp] theorem State.lane_mapLane_self : (s.mapLane i f).lane i = f (s.lane i) := by
  simp [State.mapLane]

theorem State.lane_mapLane_ne (h : j ≠ i) : (s.mapLane i f).lane j = s.lane j :=
  State.lane_setLane_ne s i j _ h

theorem State.lane_mapLane : (s.mapLane i f).lane j = if j = i then f (s.lane j) else s.lane j := by
  by_cases h : j = i
  · subst h; simp
  · simp [h, State.lane_mapLane_ne]

@[simp] theorem State.setLane_setLane (l' : LaneState) : (s.setLane i l).setLane i l' = s.setLane i l' := by
  simp [State.setLane]

@[simp] theorem State.mapLane_mapLane (g : LaneState → LaneState) :
    (s.mapLane i f).mapLane i g = s.mapLane i (fun x => g (f x)) := by
  simp [State.mapLane]

@[simp] theorem State.setLane_lane_self : s.setLane i (s.lane i) = s := by
  simp [State.setLane, State.lane]

/-- Two states with the same lanes and the same other fields are equal: lanes are compared one by one. -/
theorem State.lanes_ext {a b : State} (h : ∀ k : LaneId, a.lane k = b.lane k) : a.lanes = b.lanes := by
  apply Vector.ext
  intro k hk
  exact h ⟨k, hk⟩

/-! ### Queues -/

@[simp] theorem State.setQueue_lanes : (s.setQueue q v).lanes = s.lanes := rfl
@[simp] theorem State.setQueue_tables : (s.setQueue q v).tables = s.tables := rfl
@[simp] theorem State.setQueue_records : (s.setQueue q v).records = s.records := rfl
@[simp] theorem State.setQueue_time : (s.setQueue q v).time = s.time := rfl
@[simp] theorem State.setQueue_attn : (s.setQueue q v).attn = s.attn := rfl
@[simp] theorem State.setQueue_carg : (s.setQueue q v).carg = s.carg := rfl
@[simp] theorem State.setQueue_cstat : (s.setQueue q v).cstat = s.cstat := rfl
@[simp] theorem State.setQueue_clast : (s.setQueue q v).clast = s.clast := rfl
@[simp] theorem State.setQueue_lsel : (s.setQueue q v).lsel = s.lsel := rfl
@[simp] theorem State.setQueue_pidx : (s.setQueue q v).pidx = s.pidx := rfl
@[simp] theorem State.setQueue_lseqLatch : (s.setQueue q v).lseqLatch = s.lseqLatch := rfl
@[simp] theorem State.setQueue_resetLow : (s.setQueue q v).resetLow = s.resetLow := rfl
@[simp] theorem State.setQueue_dataOut : (s.setQueue q v).dataOut = s.dataOut := rfl
@[simp] theorem State.setQueue_choices : (s.setQueue q v).choices = s.choices := rfl
@[simp] theorem State.setQueue_pending : (s.setQueue q v).pending = s.pending := rfl
@[simp] theorem State.setQueue_queues_free : (s.setQueue q v).queues.free = s.queues.free := rfl
@[simp] theorem State.setQueue_queues_qsel : (s.setQueue q v).queues.qsel = s.queues.qsel := rfl
@[simp] theorem State.setQueue_queues_quotaLow : (s.setQueue q v).queues.quotaLow = s.queues.quotaLow := rfl
@[simp] theorem State.setQueue_queues_thrLow : (s.setQueue q v).queues.thrLow = s.queues.thrLow := rfl
@[simp] theorem State.setQueue_queues_depthLatch : (s.setQueue q v).queues.depthLatch = s.queues.depthLatch := rfl
@[simp] theorem State.setQueue_queues_lostLatch : (s.setQueue q v).queues.lostLatch = s.queues.lostLatch := rfl
@[simp] theorem State.setQueue_queues_freeLatch : (s.setQueue q v).queues.freeLatch = s.queues.freeLatch := rfl
@[simp] theorem State.setQueue_queues_hostHold : (s.setQueue q v).queues.hostHold = s.queues.hostHold := rfl
@[simp] theorem State.setQueue_queues_port : (s.setQueue q v).queues.port = s.queues.port := rfl
@[simp] theorem State.lane_setQueue : (s.setQueue q v).lane i = s.lane i := rfl
@[simp] theorem State.port_setQueue : (s.setQueue q v).port n = s.port n := rfl
@[simp] theorem State.queue_setLane : (s.setLane i l).queue q = s.queue q := rfl
@[simp] theorem State.queue_mapLane : (s.mapLane i f).queue q = s.queue q := rfl
@[simp] theorem State.port_setLane : (s.setLane i l).port n = s.port n := rfl

@[simp] theorem State.queue_setQueue_self : (s.setQueue q v).queue q = v := by
  simp [State.setQueue, State.queue]

theorem State.queue_setQueue_ne (h : r ≠ q) : (s.setQueue q v).queue r = s.queue r := by
  have : q.val ≠ r.val := fun e => h (Fin.ext e.symm)
  simp [State.setQueue, State.queue, this]

theorem State.queue_setQueue : (s.setQueue q v).queue r = if r = q then v else s.queue r := by
  by_cases h : r = q
  · subst h; simp
  · simp [h, State.queue_setQueue_ne]

@[simp] theorem State.setQueue_setQueue (w : Queue) : (s.setQueue q v).setQueue q w = s.setQueue q w := by
  simp [State.setQueue]

@[simp] theorem State.setQueue_queue_self : s.setQueue q (s.queue q) = s := by
  simp [State.setQueue, State.queue]

/-! ### DMA ports -/

@[simp] theorem State.setPort_lanes : (s.setPort n p).lanes = s.lanes := rfl
@[simp] theorem State.setPort_tables : (s.setPort n p).tables = s.tables := rfl
@[simp] theorem State.setPort_records : (s.setPort n p).records = s.records := rfl
@[simp] theorem State.setPort_time : (s.setPort n p).time = s.time := rfl
@[simp] theorem State.setPort_attn : (s.setPort n p).attn = s.attn := rfl
@[simp] theorem State.setPort_carg : (s.setPort n p).carg = s.carg := rfl
@[simp] theorem State.setPort_cstat : (s.setPort n p).cstat = s.cstat := rfl
@[simp] theorem State.setPort_clast : (s.setPort n p).clast = s.clast := rfl
@[simp] theorem State.setPort_lsel : (s.setPort n p).lsel = s.lsel := rfl
@[simp] theorem State.setPort_pidx : (s.setPort n p).pidx = s.pidx := rfl
@[simp] theorem State.setPort_lseqLatch : (s.setPort n p).lseqLatch = s.lseqLatch := rfl
@[simp] theorem State.setPort_resetLow : (s.setPort n p).resetLow = s.resetLow := rfl
@[simp] theorem State.setPort_dataOut : (s.setPort n p).dataOut = s.dataOut := rfl
@[simp] theorem State.setPort_choices : (s.setPort n p).choices = s.choices := rfl
@[simp] theorem State.setPort_pending : (s.setPort n p).pending = s.pending := rfl
@[simp] theorem State.setPort_queues_free : (s.setPort n p).queues.free = s.queues.free := rfl
@[simp] theorem State.setPort_queues_qsel : (s.setPort n p).queues.qsel = s.queues.qsel := rfl
@[simp] theorem State.setPort_queues_quotaLow : (s.setPort n p).queues.quotaLow = s.queues.quotaLow := rfl
@[simp] theorem State.setPort_queues_thrLow : (s.setPort n p).queues.thrLow = s.queues.thrLow := rfl
@[simp] theorem State.setPort_queues_depthLatch : (s.setPort n p).queues.depthLatch = s.queues.depthLatch := rfl
@[simp] theorem State.setPort_queues_lostLatch : (s.setPort n p).queues.lostLatch = s.queues.lostLatch := rfl
@[simp] theorem State.setPort_queues_freeLatch : (s.setPort n p).queues.freeLatch = s.queues.freeLatch := rfl
@[simp] theorem State.setPort_queues_hostHold : (s.setPort n p).queues.hostHold = s.queues.hostHold := rfl
@[simp] theorem State.setPort_queues_queue : (s.setPort n p).queues.queue = s.queues.queue := rfl
@[simp] theorem State.lane_setPort : (s.setPort n p).lane i = s.lane i := rfl
@[simp] theorem State.queue_setPort : (s.setPort n p).queue q = s.queue q := rfl

@[simp] theorem State.port_setPort_self : (s.setPort n p).port n = p := by
  simp [State.setPort, State.port]

theorem State.port_setPort_ne (h : m ≠ n) : (s.setPort n p).port m = s.port m := by
  have : n.val ≠ m.val := fun e => h (Fin.ext e.symm)
  simp [State.setPort, State.port, this]

@[simp] theorem State.setPort_setPort (p' : DmaPort) : (s.setPort n p).setPort n p' = s.setPort n p' := by
  simp [State.setPort]

/-! ### Posting changes the attention list alone (R148) -/

theorem State.post_admitted (h : s.attn.admits c = true) :
    s.post c src = { s with attn.list := foldPosting c src (s.time.counter.extractLsb' 0 16) s.attn.list } := by
  simp [State.post, h]

theorem State.post_masked (h : s.attn.admits c = false) : s.post c src = s := by
  simp [State.post, h]

/-- All that a posting can do: change the list, and nothing else. -/
theorem State.post_eq : s.post c src = { s with attn.list := (s.post c src).attn.list } := by
  unfold State.post; split <;> rfl

@[simp] theorem State.post_lanes : (s.post c src).lanes = s.lanes := by rw [State.post_eq]
@[simp] theorem State.post_tables : (s.post c src).tables = s.tables := by rw [State.post_eq]
@[simp] theorem State.post_queues : (s.post c src).queues = s.queues := by rw [State.post_eq]
@[simp] theorem State.post_records : (s.post c src).records = s.records := by rw [State.post_eq]
@[simp] theorem State.post_time : (s.post c src).time = s.time := by rw [State.post_eq]
@[simp] theorem State.post_carg : (s.post c src).carg = s.carg := by rw [State.post_eq]
@[simp] theorem State.post_cstat : (s.post c src).cstat = s.cstat := by rw [State.post_eq]
@[simp] theorem State.post_clast : (s.post c src).clast = s.clast := by rw [State.post_eq]
@[simp] theorem State.post_lsel : (s.post c src).lsel = s.lsel := by rw [State.post_eq]
@[simp] theorem State.post_pidx : (s.post c src).pidx = s.pidx := by rw [State.post_eq]
@[simp] theorem State.post_lseqLatch : (s.post c src).lseqLatch = s.lseqLatch := by rw [State.post_eq]
@[simp] theorem State.post_resetLow : (s.post c src).resetLow = s.resetLow := by rw [State.post_eq]
@[simp] theorem State.post_dataOut : (s.post c src).dataOut = s.dataOut := by rw [State.post_eq]
@[simp] theorem State.post_choices : (s.post c src).choices = s.choices := by rw [State.post_eq]
@[simp] theorem State.post_pending : (s.post c src).pending = s.pending := by rw [State.post_eq]
@[simp] theorem State.post_attn_masks : (s.post c src).attn.masks = s.attn.masks := by rw [State.post_eq]
@[simp] theorem State.post_attn_hold : (s.post c src).attn.hold = s.attn.hold := by rw [State.post_eq]
@[simp] theorem State.lane_post : (s.post c src).lane i = s.lane i := by simp [State.lane]
@[simp] theorem State.queue_post : (s.post c src).queue q = s.queue q := by simp [State.queue]
@[simp] theorem State.port_post : (s.post c src).port n = s.port n := by simp [State.port]

end Sys2Proof.Machine
end

