-- ==== Sys2Proof/Laws/Ops.lean ====
section
/-! SUPPORT. What each shared operation can do, said once: happenings and the data lines, commands, posting, the ACTIVE
bank, appends, pops, records and the staging list. -/

namespace Sys2Proof.Machine

/-! ### Happenings (Ops.lean) -/

theorem act_up (f : State → State) (s : State) (h : s.resetLow = false) :
    act f s = .next { f s with dataOut := none } := by
  simp [act, h]

theorem act_low (f : State → State) (s : State) (h : s.resetLow = true) :
    act f s = .next { s with dataOut := none } := by
  simp [act, h]

theorem answer_up (f : State → Byte × State) (s : State) (h : s.resetLow = false) :
    answer f s = .next { (f s).2 with dataOut := some (f s).1 } := by
  simp [answer, h]

theorem answer_low (f : State → Byte × State) (s : State) (h : s.resetLow = true) :
    answer f s = .next { s with dataOut := some 0 } := by
  simp [answer, h]

/-- A property that speaks of neither the data lines nor the byte read, and that `f` keeps, a happening keeps. -/
theorem act_keeps (P : State → Prop) (hd : ∀ s d, P s → P { s with dataOut := d }) (f : State → State)
    (hf : ∀ s, P s → P (f s)) (s t : State) (hs : P s) (h : act f s = .next t) : P t := by
  unfold act at h
  split at h
  · cases h; exact hd _ _ hs
  · cases h; exact hd _ _ (hf _ hs)

theorem answer_keeps (P : State → Prop) (hd : ∀ s d, P s → P { s with dataOut := d }) (f : State → Byte × State)
    (hf : ∀ s, P s → P (f s).2) (s t : State) (hs : P s) (h : answer f s = .next t) : P t := by
  unfold answer at h
  split at h
  · cases h; exact hd _ _ hs
  · cases h; exact hd _ _ (hf _ hs)

/-- A property that does not speak of CLAST and CSTAT, and that the owner keeps, a command keeps. -/
theorem command_keeps (P : State → Prop) (hc : ∀ s x y, P s → P { s with clast := x, cstat := y }) (code : Byte)
    (owner : State → CmdStatus × State) (ho : ∀ s, P s → P (owner s).2) (s : State) (hs : P s) :
    P (command code owner s) :=
  hc _ _ _ (ho _ hs)

theorem withLane_keeps (P : State → Prop) (f : LaneId → State → CmdStatus × State)
    (hf : ∀ i s, P s → P (f i s).2) (s : State) (hs : P s) : P (withLane f s).2 := by
  unfold withLane; split
  · exact hf _ _ hs
  · exact hs

theorem withQueue_keeps (P : State → Prop) (f : QueueId → State → CmdStatus × State)
    (hf : ∀ q s, P s → P (f q s).2) (s : State) (hs : P s) : P (withQueue f s).2 := by
  unfold withQueue; split
  · exact hf _ _ hs
  · exact hs

theorem withLane_of_lt (f : LaneId → State → CmdStatus × State) (s : State) (h : s.carg.toNat < 4) :
    withLane f s = f ⟨s.carg.toNat, h⟩ s := by
  simp [withLane, h]

theorem withQueue_of_lt (f : QueueId → State → CmdStatus × State) (s : State) (h : s.carg.toNat < 8) :
    withQueue f s = f ⟨s.carg.toNat, h⟩ s := by
  simp [withQueue, h]

/-! ### Posting (R148) -/

/-- A posting of a pair that is not listed is appended with repeat count 1. -/
theorem foldPosting_new (c : Cause) (src : Byte) (now : BitVec 16) (rs : List AttnRecord)
    (h : ∀ r ∈ rs, ¬(r.cause = c ∧ r.source = src)) :
    foldPosting c src now rs = rs ++ [{ cause := c, source := src, count := 1, first := now }] := by
  induction rs with
  | nil => rfl
  | cons r rs ih =>
    have hr := h r (by simp)
    simp only [foldPosting, hr, if_false, List.cons_append]
    rw [ih fun r' hr' => h r' (by simp [hr'])]

/-- A posting of a listed pair raises the first such record's repeat count and moves nothing. -/
theorem foldPosting_listed (c : Cause) (src : Byte) (now : BitVec 16) (xs ys : List AttnRecord) (r : AttnRecord)
    (hx : ∀ r' ∈ xs, ¬(r'.cause = c ∧ r'.source = src)) (hr : r.cause = c ∧ r.source = src) :
    foldPosting c src now (xs ++ r :: ys) = xs ++ { r with count := satInc r.count } :: ys := by
  induction xs with
  | nil => simp [foldPosting, hr]
  | cons x xs ih =>
    have h1 := hx x (by simp)
    simp only [List.cons_append, foldPosting, h1, if_false]
    rw [ih fun r' hr' => hx r' (by simp [hr'])]

/-! ### The ACTIVE bank (R93, R102) -/

theorem State.swapPending_iff (s : State) (i : LaneId) :
    s.swapPending i = true ↔ (s.lane i).bankInUse ≠ s.tables.active := by
  simp [State.swapPending]

/-- All that a lane's taking the ACTIVE bank can do. -/
theorem State.takeActive_cases (s : State) (i : LaneId) :
    (s.swapPending i = false ∧ s.takeActive i = s) ∨
    (s.swapPending i = true ∧
      ((s.mapLane i fun l => { l with bankInUse := s.tables.active }).noLanePending = false ∧
        s.takeActive i = s.mapLane i fun l => { l with bankInUse := s.tables.active })) ∨
    (s.swapPending i = true ∧
      ((s.mapLane i fun l => { l with bankInUse := s.tables.active }).noLanePending = true ∧
        s.takeActive i =
          { s.mapLane i fun l => { l with bankInUse := s.tables.active } with tables.swapping := false }.post
            .swapDone deviceSource)) := by
  unfold State.takeActive
  cases h : s.swapPending i with
  | false => exact .inl ⟨rfl, by simp⟩
  | true =>
    cases h2 : (s.mapLane i fun l => { l with bankInUse := s.tables.active }).noLanePending with
    | false => exact .inr (.inl ⟨rfl, by simp [h2]⟩)
    | true => exact .inr (.inr ⟨rfl, by simp [h2]⟩)

/-- After it the lane's bank in use is ACTIVE, and nothing else of any lane has changed. -/
theorem State.lane_takeActive (s : State) (i j : LaneId) :
    (s.takeActive i).lane j = if j = i then { s.lane j with bankInUse := s.tables.active } else s.lane j := by
  rcases s.takeActive_cases i with ⟨h, e⟩ | ⟨-, -, e⟩ | ⟨-, -, e⟩
  · rw [e]
    by_cases hj : j = i
    · subst hj
      have hb : (s.lane j).bankInUse = s.tables.active := by simpa [State.swapPending] using h
      rw [if_pos rfl, ← hb]
    · simp [hj]
  · rw [e, State.lane_mapLane]
  · rw [e, State.lane_post]
    exact State.lane_mapLane s i j (fun l => { l with bankInUse := s.tables.active })

theorem State.takeActive_tables (s : State) (i : LaneId) :
    (s.takeActive i).tables = { s.tables with swapping := (s.takeActive i).tables.swapping } := by
  rcases s.takeActive_cases i with ⟨-, e⟩ | ⟨-, -, e⟩ | ⟨-, -, e⟩ <;> rw [e] <;> simp

/-! ### Queues (R116 to R120) -/

/-- All that an offered record can meet. -/
theorem State.offerWord_cases (s : State) (q : QueueId) (r : WordRecord) :
    ((s.queue q).state = .disabled ∧ s.offerWord q r = (.discarded, s)) ∨
    ((s.queue q).state = .held ∧ s.offerWord q r = (.refused, s.loseWord q)) ∨
    ((s.queue q).state = .opened ∧ (s.queue q).depth < (s.queue q).quota ∧ 0 < s.queues.free ∧
      s.offerWord q r = (.appended, s.appendWord q r)) ∨
    ((s.queue q).state = .opened ∧ ¬((s.queue q).depth < (s.queue q).quota ∧ 0 < s.queues.free) ∧
      ((∃ x rest, (s.queue q).policy = .dropOld ∧ (s.queue q).entries = x :: rest ∧
          s.offerWord q r = (.appended, s.evictWord q rest r)) ∨
       (((s.queue q).policy = .dropNew ∨ (s.queue q).entries = []) ∧
          s.offerWord q r = (.dropped, s.loseWord q)))) := by
  unfold State.offerWord
  cases hs : (s.queue q).state with
  | disabled => simp
  | held => simp
  | opened =>
    by_cases hr : (s.queue q).depth < (s.queue q).quota ∧ 0 < s.queues.free
    · exact .inr (.inr (.inl ⟨rfl, hr.1, hr.2, by simp [hr]⟩))
    · refine .inr (.inr (.inr ⟨rfl, hr, ?_⟩))
      cases hp : (s.queue q).policy with
      | dropNew => exact .inr ⟨.inl rfl, by simp [hr]⟩
      | dropOld =>
        cases he : (s.queue q).entries with
        | nil => exact .inr ⟨.inr rfl, by simp [hr]⟩
        | cons x rest => exact .inl ⟨x, rest, rfl, rfl, by simp [hr]⟩

/-- A queue loses a word: the lost counter and the posting. -/
theorem State.loseWord_eq (s : State) (q : QueueId) :
    s.loseWord q =
      { s.setQueue q { s.queue q with lost := satInc (s.queue q).lost } with
        attn.list := (s.loseWord q).attn.list } := by
  unfold State.loseWord
  rw [State.post_eq]

/-- An append with room: one entry more, one slot less, and postings. -/
theorem State.appendWord_eq (s : State) (q : QueueId) (r : WordRecord) :
    s.appendWord q r =
      { s.setQueue q { s.queue q with entries := (s.queue q).entries ++ [r] } with
        queues.free := s.queues.free - 1, attn.list := (s.appendWord q r).attn.list } := by
  unfold State.appendWord
  dsimp only
  split <;> split <;> simp only [State.post] <;> split <;> (try split) <;> rfl

/-- All that a pop can do. -/
theorem State.popQueue_cases (s : State) (q : QueueId) :
    (((s.queue q).state = .disabled ∨ (s.queue q).entries = []) ∧ s.popQueue q = (emptyWord, s)) ∨
    (∃ r rest, (s.queue q).state ≠ .disabled ∧ (s.queue q).entries = r :: rest ∧
      s.popQueue q =
        (r.bytes, { s.setQueue q { s.queue q with entries := rest } with queues.free := s.queues.free + 1 })) := by
  unfold State.popQueue
  cases hs : (s.queue q).state <;> cases he : (s.queue q).entries <;> simp

/-! ### Frame records (R132, R134) -/

/-- All that an offered record can do. -/
theorem State.offerRecord_cases (s : State) (mode : BitVec 2) (r : FrameRecord) :
    (modeOffers mode r = false ∧ s.offerRecord mode r = s) ∨
    (modeOffers mode r = true ∧ s.records.list.length < 64 ∧
      s.offerRecord mode r =
        { s with records.list := s.records.list ++ [{ r with gap := s.records.gap }], records.gap := false }) ∨
    (modeOffers mode r = true ∧ ¬s.records.list.length < 64 ∧
      s.offerRecord mode r =
        { s with records.loss := satInc s.records.loss, records.gap := true }.post .recordLoss deviceSource) := by
  unfold State.offerRecord
  cases h : modeOffers mode r with
  | false => exact .inl ⟨rfl, by simp⟩
  | true =>
    by_cases hl : s.records.list.length < 64
    · exact .inr (.inl ⟨rfl, hl, by simp [State.storeRecord, Config.recordSlots, hl]⟩)
    · exact .inr (.inr ⟨rfl, hl, by simp [State.storeRecord, Config.recordSlots, hl]⟩)

/-! ### Walks and batches: a property that the pieces keep, the whole keeps -/

theorem State.releaseAll_keeps (P : State → Prop) (i : LaneId) (hd : ∀ s q r, P s → P (s.deliver i q r))
    (xs : List Staged) (s : State) (hs : P s) : P (s.releaseAll i xs) := by
  induction xs generalizing s with
  | nil => exact hs
  | cons x xs ih => exact ih _ (hd _ _ _ hs)

theorem State.walk_keeps (P : State → Prop) (i : LaneId) (x : Nat) (v : BitVec 16)
    (ha : ∀ s, P s → P (s.advanceCursor i)) (he : ∀ s e, P s → P (s.evaluateEntry i x v e)) (n : Nat) (s : State)
    (hs : P s) : P (State.walk i x v n s) := by
  induction n generalizing s with
  | zero => exact hs
  | succ n ih =>
    unfold State.walk
    dsimp only
    split
    · exact ih _ (ha _ hs)
    · split
      · exact ih _ (ha _ (he _ _ hs))
      · exact hs

theorem State.foldl_keeps (P : State → Prop) {α : Type} (f : State → α → State) (hf : ∀ s a, P s → P (f s a))
    (xs : List α) (s : State) (hs : P s) : P (xs.foldl f s) := by
  induction xs generalizing s with
  | nil => exact hs
  | cons x xs ih => exact ih _ (hf _ _ hs)

theorem State.expireAll_keeps (P : State → Prop) (hc : ∀ s n, P s → P { s with choices := n })
    (he : ∀ s i, P s → P (s.expireSilence i)) (due : List LaneId) (s : State) (hs : P s) : P (s.expireAll due) := by
  unfold State.expireAll
  split
  · exact hs
  · exact he _ _ hs
  · exact hc _ _ (State.foldl_keeps P _ he _ _ hs)

/-! ### The order of several expiries -/

/-- Every code gives an order of the list. -/
theorem arrange_perm (c : Nat) (xs : List LaneId) : (arrange c xs).Perm xs := by
  induction xs generalizing c with
  | nil => exact List.Perm.refl _
  | cons x xs ih =>
    unfold arrange
    have h := ih (c / (xs.length + 1))
    have hl : c % (xs.length + 1) ≤ (arrange (c / (xs.length + 1)) xs).length := by
      rw [h.length_eq]
      have := Nat.mod_lt c (Nat.zero_lt_succ xs.length)
      rw [Nat.succ_eq_add_one] at this
      omega
    exact (List.perm_insertIdx x _ hl).trans (h.cons x)

end Sys2Proof.Machine
end

