-- ==== Sys2Proof/Laws/Frame.lean ====
section
/-! SUPPORT. What each operation of one lane can reach: `LaneFrame` for every piece of a lane's happening. -/

namespace Sys2Proof

open Sys2Proof.Machine

namespace LaneFrame

variable {i : LaneId} {s t u : State}

theorem refl (i : LaneId) (s : State) : LaneFrame i s s := by
  constructor <;> intros <;> rfl

theorem trans (h : LaneFrame i s t) (k : LaneFrame i t u) : LaneFrame i s u where
  others j hj := (k.others j hj).trans (h.others j hj)
  profile := k.profile.trans h.profile
  holding := k.holding.trans h.holding
  tables := by rw [k.tables, h.tables]
  queues := by rw [k.queues, h.queues]
  queue q := by rw [k.queue q, h.queue q]
  records := by rw [k.records, h.records]
  attn := by rw [k.attn, h.attn]
  time := k.time.trans h.time
  carg := k.carg.trans h.carg
  cstat := k.cstat.trans h.cstat
  clast := k.clast.trans h.clast
  lsel := k.lsel.trans h.lsel
  pidx := k.pidx.trans h.pidx
  lseqLatch := k.lseqLatch.trans h.lseqLatch
  resetLow := k.resetLow.trans h.resetLow
  choices := k.choices.trans h.choices
  pending := k.pending.trans h.pending

/-- `trans`, the later part first: what it starts from is then known before the earlier part is read. -/
theorem after (k : LaneFrame i t u) (h : LaneFrame i s t) : LaneFrame i s u := trans h k

/-- An update of the lane that keeps its profile and holding place. -/
theorem setLane (i : LaneId) (s : State) (l : LaneState) (hp : l.intake.profile = (s.lane i).intake.profile)
    (hh : l.intake.holding = (s.lane i).intake.holding) : LaneFrame i s (s.setLane i l) where
  others j hj := State.lane_setLane_ne s i j l hj
  profile := by simpa using hp
  holding := by simpa using hh
  tables := rfl
  queues := rfl
  queue _ := rfl
  records := rfl
  attn := rfl
  time := rfl
  carg := rfl
  cstat := rfl
  clast := rfl
  lsel := rfl
  pidx := rfl
  lseqLatch := rfl
  resetLow := rfl
  choices := rfl
  pending := rfl

theorem mapLane (i : LaneId) (s : State) (f : LaneState → LaneState)
    (hp : ∀ l, (f l).intake.profile = l.intake.profile) (hh : ∀ l, (f l).intake.holding = l.intake.holding) :
    LaneFrame i s (s.mapLane i f) :=
  setLane i s _ (hp _) (hh _)

theorem post (i : LaneId) (s : State) (c : Cause) (src : Byte) : LaneFrame i s (s.post c src) := by
  rw [State.post_eq]
  constructor <;> intros <;> rfl

theorem swapFlag (i : LaneId) (s : State) (b : Bool) : LaneFrame i s { s with tables.swapping := b } := by
  constructor <;> intros <;> rfl

theorem takeActive (i : LaneId) (s : State) : LaneFrame i s (s.takeActive i) := by
  rcases s.takeActive_cases i with ⟨-, e⟩ | ⟨-, -, e⟩ | ⟨-, -, e⟩ <;> rw [e]
  · exact refl i s
  · exact mapLane i s _ (fun _ => rfl) (fun _ => rfl)
  · exact after (post i _ _ _) (after (swapFlag i _ false)
      (mapLane i s (fun l => { l with bankInUse := s.tables.active }) (fun _ => rfl) fun _ => rfl))

/-! ### Queues and records -/

/-- An update of one queue's entries, lost counter and of the free count. -/
theorem setQueue (i : LaneId) (s : State) (q : QueueId) (v : Queue) (n : Nat)
    (hv : v = { s.queue q with entries := v.entries, lost := v.lost }) :
    LaneFrame i s { s.setQueue q v with queues.free := n } where
  others _ _ := rfl
  profile := rfl
  holding := rfl
  tables := rfl
  queues := rfl
  queue r := by
    change (s.setQueue q v).queue r =
      { s.queue r with entries := ((s.setQueue q v).queue r).entries, lost := ((s.setQueue q v).queue r).lost }
    rw [State.queue_setQueue]
    split
    · next h => rw [h]; exact hv
    · rfl
  records := rfl
  attn := rfl
  time := rfl
  carg := rfl
  cstat := rfl
  clast := rfl
  lsel := rfl
  pidx := rfl
  lseqLatch := rfl
  resetLow := rfl
  choices := rfl
  pending := rfl

theorem loseWord (i : LaneId) (s : State) (q : QueueId) : LaneFrame i s (s.loseWord q) :=
  after (post i _ _ _) (setQueue i s q { s.queue q with lost := satInc (s.queue q).lost } s.queues.free rfl)

theorem appendWord (i : LaneId) (s : State) (q : QueueId) (r : WordRecord) : LaneFrame i s (s.appendWord q r) := by
  have h := setQueue i s q { s.queue q with entries := (s.queue q).entries ++ [r] } (s.queues.free - 1) rfl
  unfold State.appendWord
  dsimp only
  split <;> split
  · exact after (post i _ _ _) (after (post i _ _ _) h)
  · exact after (post i _ _ _) h
  · exact after (post i _ _ _) h
  · exact h

theorem evictWord (i : LaneId) (s : State) (q : QueueId) (rest : List WordRecord) (r : WordRecord) :
    LaneFrame i s (s.evictWord q rest r) :=
  after (loseWord i _ q) (setQueue i s q { s.queue q with entries := rest ++ [r] } s.queues.free rfl)

theorem offerWord (i : LaneId) (s : State) (q : QueueId) (r : WordRecord) : LaneFrame i s (s.offerWord q r).2 := by
  rcases s.offerWord_cases q r with ⟨-, e⟩ | ⟨-, e⟩ | ⟨-, -, -, e⟩ | ⟨-, -, ⟨_, _, -, -, e⟩ | ⟨-, e⟩⟩ <;> rw [e]
  · exact refl i s
  · exact loseWord i s q
  · exact appendWord i s q r
  · exact evictWord i s q _ r
  · exact loseWord i s q

theorem deliver (i : LaneId) (s : State) (q : QueueId) (r : WordRecord) : LaneFrame i s (s.deliver i q r) :=
  after (mapLane i _ _ (fun _ => rfl) fun _ => rfl) (offerWord i s q r)

theorem offerRecord (i : LaneId) (s : State) (mode : BitVec 2) (r : FrameRecord) :
    LaneFrame i s (s.offerRecord mode r) := by
  rcases s.offerRecord_cases mode r with ⟨-, e⟩ | ⟨-, -, e⟩ | ⟨-, -, e⟩ <;> rw [e]
  · exact refl i s
  · constructor <;> intros <;> rfl
  · refine after (post i _ _ _) ?_
    constructor <;> intros <;> rfl

/-! ### The check block, the cycle tracker and the selector -/

theorem stageWord (i : LaneId) (s : State) (x : Staged) : LaneFrame i s (s.stageWord i x) := by
  unfold State.stageWord
  dsimp only
  split
  · exact mapLane i s _ (fun _ => rfl) fun _ => rfl
  · split
    · exact mapLane i s _ (fun _ => rfl) fun _ => rfl
    · exact after (post i _ _ _) (mapLane i s _ (fun _ => rfl) fun _ => rfl)

theorem releaseAll (i : LaneId) (s : State) (xs : List Staged) : LaneFrame i s (s.releaseAll i xs) :=
  State.releaseAll_keeps (LaneFrame i s) i (fun _ _ _ h => after (deliver i _ _ _) h) xs s (refl i s)

theorem compareCheck (i : LaneId) (s : State) (v : BitVec 16) : LaneFrame i s (s.compareCheck i v) := by
  unfold State.compareCheck
  dsimp only
  split
  · split
    · exact setLane i s _ rfl rfl
    · exact after (releaseAll i _ _) (setLane i s _ rfl rfl)
  · exact after (post i _ _ _) (setLane i s _ rfl rfl)

theorem checkWordNotice (i : LaneId) (s : State) (x : Nat) (v : BitVec 16) :
    LaneFrame i s (s.checkWordNotice i x v) := by
  unfold State.checkWordNotice
  dsimp only
  split
  · exact refl i s
  · split
    · exact setLane i s _ rfl rfl
    · split
      · exact compareCheck i s v
      · exact refl i s

theorem trackWord (i : LaneId) (s : State) (x : Nat) (v : BitVec 16) : LaneFrame i s (s.trackWord i x v) := by
  unfold State.trackWord
  dsimp only
  split
  · split
    · exact setLane i s _ rfl rfl
    · exact after (post i _ _ _) (setLane i s _ rfl rfl)
  · exact refl i s

theorem evaluateEntry (i : LaneId) (s : State) (x : Nat) (v : BitVec 16) (e : SelEntry) :
    LaneFrame i s (s.evaluateEntry i x v e) := by
  unfold State.evaluateEntry
  dsimp only
  split
  · exact refl i s
  · exact setLane i s _ rfl rfl
  · split
    · exact stageWord i s _
    · exact deliver i s _ _

theorem selectWord (i : LaneId) (s : State) (x : Nat) (v : BitVec 16) : LaneFrame i s (s.selectWord i x v) := by
  unfold State.selectWord
  dsimp only
  split
  · split
    · exact refl i s
    · exact State.walk_keeps (LaneFrame i s) i x v
        (fun _ h => after (mapLane i _ _ (fun _ => rfl) fun _ => rfl) h)
        (fun _ _ h => after (evaluateEntry i _ _ _ _) h) _ s (refl i s)
  · exact refl i s

theorem wordNotice (i : LaneId) (s : State) (x : Nat) (v : BitVec 16) : LaneFrame i s (s.wordNotice i x v) :=
  after (selectWord i _ x v) (after (checkWordNotice i _ x v) (trackWord i s x v))

/-! ### The frame lock engine -/

theorem syncNotices (i : LaneId) (s : State) (w : List Bool) : LaneFrame i s (s.syncNotices i w) :=
  State.foldl_keeps (LaneFrame i s) _ (fun _ _ h => after (wordNotice i _ _ _) h) _ s (refl i s)

theorem startFrame (i : LaneId) (s : State) (kind : StartKind) (slip : StartSlip) (w : List Bool) :
    LaneFrame i s (s.startFrame i kind slip w) :=
  after (syncNotices i _ w) (setLane i s _ rfl rfl)

theorem endFrame (i : LaneId) (s : State) (e : EndClass) : LaneFrame i s (s.endFrame i e) := by
  unfold State.endFrame
  dsimp only
  split
  · exact refl i s
  · exact after (offerRecord i _ _ _) (setLane i s _ rfl rfl)

theorem searchNotice (i : LaneId) (s : State) : LaneFrame i s (s.searchNotice i) :=
  after (takeActive i _) (mapLane i s _ (fun _ => rfl) fun _ => rfl)

theorem enterSearch (i : LaneId) (s : State) : LaneFrame i s (s.enterSearch i) :=
  after (searchNotice i _) (mapLane i s _ (fun _ => rfl) fun _ => rfl)

theorem failToSearch (i : LaneId) (s : State) : LaneFrame i s (s.failToSearch i) :=
  after (searchNotice i _) (after (takeActive i _) (mapLane i s _ (fun _ => rfl) fun _ => rfl))

theorem searchMatch (i : LaneId) (s : State) (q : Polarity) : LaneFrame i s (s.searchMatch i q) := by
  unfold State.searchMatch
  dsimp only
  split
  · exact setLane i s _ rfl rfl
  · exact after (post i _ _ _) (setLane i s _ rfl rfl)

theorem acceptSync (i : LaneId) (s : State) (c : StartSlip) (w : List Bool) : LaneFrame i s (s.acceptSync i c w) := by
  unfold State.acceptSync
  refine after (startFrame i _ _ _ _) (after (takeActive i _)
    (after (mapLane i _ _ (fun _ => rfl) fun _ => rfl) (after (endFrame i _ _) (mapLane i s _ ?_ ?_)))) <;>
    intro l <;> cases c <;> rfl

theorem rejectSync (i : LaneId) (s : State) (w : List Bool) : LaneFrame i s (s.rejectSync i w) := by
  have h : LaneFrame i s ((s.mapLane i fun l => { l with engine := { l.engine with late := none } }).endFrame i
      .unconfirmed) :=
    after (endFrame i _ _) (mapLane i s _ (fun _ => rfl) fun _ => rfl)
  unfold State.rejectSync
  dsimp only
  split
  · have k := after (startFrame i _ .coast .none w) (after (takeActive i _)
      (after (mapLane i _ (fun l => { l with engine := { l.engine with
      lock := .coast, bad := (s.lane i).engine.badNext } }) (fun _ => rfl) fun _ => rfl) h))
    split
    · exact after (post i _ _ _) k
    · exact k
  · exact after (post i _ _ _) (after (failToSearch i _) h)

theorem abandon (i : LaneId) (s : State) : LaneFrame i s (s.abandon i) :=
  after (mapLane i _ _ (fun _ => rfl) fun _ => rfl) (endFrame i s _)

theorem loseLock (i : LaneId) (s : State) : LaneFrame i s (s.loseLock i) :=
  after (post i _ _ _) (after (enterSearch i _) (abandon i s))

theorem returnToSearch (i : LaneId) (s : State) : LaneFrame i s (s.returnToSearch i) := by
  unfold State.returnToSearch
  split
  · exact refl i s
  · exact refl i s
  · exact enterSearch i s
  · exact loseLock i s
  · exact loseLock i s

theorem expireSilence (i : LaneId) (s : State) : LaneFrame i s (s.expireSilence i) :=
  after (returnToSearch i _) (after (post i _ _ _) (mapLane i s _ (fun _ => rfl) fun _ => rfl))

end LaneFrame

end Sys2Proof
end

