-- ==== Sys2Proof/Laws/Memory.lean ====
section
/-! SUPPORT. The laws of the table store's memory: read after write, other addresses left alone, the canonical form
kept, and equal contents mean equal data. -/

namespace Sys2Proof.Machine

/-! ### Other addresses -/

theorem Memory.read_write_ne (m : Memory) (a b : Nat) (v : Byte) (h : b ≠ a) :
    (m.write a v).read b = m.read b := by
  induction m with
  | nil => by_cases hv : v = 0#8 <;> simp [Memory.write, Memory.read, hv, h]
  | cons c m ih =>
    obtain ⟨x, w⟩ := c
    by_cases h1 : a < x
    · by_cases hv : v = 0#8 <;> simp [Memory.write, Memory.read, h1, hv, h]
    · by_cases h2 : a = x
      · subst h2
        by_cases hv : v = 0#8 <;> simp [Memory.write, Memory.read, hv, h]
      · simp [Memory.write, Memory.read, h1, h2, ih]

/-! ### Below the first address -/

theorem Memory.read_below (m : Memory) (lo a : Nat) (h : m.wfFrom lo = true) (ha : a < lo) : m.read a = 0#8 := by
  induction m generalizing lo with
  | nil => rfl
  | cons c m ih =>
    obtain ⟨x, w⟩ := c
    simp only [Memory.wfFrom, Bool.and_eq_true, decide_eq_true_eq] at h
    have hx : a ≠ x := by omega
    simp only [Memory.read, hx, if_false]
    exact ih (x + 1) h.2 (by omega)

theorem Memory.wfFrom_mono (m : Memory) (lo lo' : Nat) (h : m.wfFrom lo = true) (hl : lo' ≤ lo) :
    m.wfFrom lo' = true := by
  cases m with
  | nil => rfl
  | cons c m =>
    obtain ⟨x, w⟩ := c
    simp only [Memory.wfFrom, Bool.and_eq_true, decide_eq_true_eq] at h ⊢
    exact ⟨⟨by omega, h.1.2⟩, h.2⟩

/-! ### Read after write, and the canonical form -/

theorem Memory.read_write_self_from (m : Memory) (lo a : Nat) (v : Byte) (h : m.wfFrom lo = true) :
    (m.write a v).read a = v := by
  induction m generalizing lo with
  | nil => by_cases hv : v = 0#8 <;> simp [Memory.write, Memory.read, hv]
  | cons c m ih =>
    obtain ⟨x, w⟩ := c
    simp only [Memory.wfFrom, Bool.and_eq_true, decide_eq_true_eq] at h
    by_cases h1 : a < x
    · by_cases hv : v = 0#8
      · have h0 := Memory.read_below m (x + 1) a h.2 (by omega)
        have hx : a ≠ x := by omega
        simp [Memory.write, Memory.read, h1, hv, hx, h0]
      · simp [Memory.write, Memory.read, h1, hv]
    · by_cases h2 : a = x
      · subst h2
        by_cases hv : v = 0#8
        · have h0 := Memory.read_below m (a + 1) a h.2 (by omega)
          simp [Memory.write, hv, h0]
        · simp [Memory.write, Memory.read, hv]
      · simp [Memory.write, Memory.read, h1, h2, ih (x + 1) h.2]

theorem Memory.read_write_self (m : Memory) (a : Nat) (v : Byte) (h : m.wf = true) : (m.write a v).read a = v :=
  Memory.read_write_self_from m 0 a v h

theorem Memory.write_wfFrom (m : Memory) (lo a : Nat) (v : Byte) (h : m.wfFrom lo = true) (ha : lo ≤ a) :
    (m.write a v).wfFrom lo = true := by
  induction m generalizing lo with
  | nil => by_cases hv : v = 0#8 <;> simp [Memory.write, Memory.wfFrom, hv, ha]
  | cons c m ih =>
    obtain ⟨x, w⟩ := c
    simp only [Memory.wfFrom, Bool.and_eq_true, decide_eq_true_eq] at h
    by_cases h1 : a < x
    · by_cases hv : v = 0#8
      · simp only [Memory.write, h1, hv, if_true, Memory.wfFrom, Bool.and_eq_true, decide_eq_true_eq]
        exact h
      · have h3 : a + 1 ≤ x := h1
        simp only [Memory.write, h1, hv, if_true, if_false, Memory.wfFrom, Bool.and_eq_true, decide_eq_true_eq]
        exact ⟨⟨ha, by simp [hv]⟩, ⟨h3, h.1.2⟩, h.2⟩
    · by_cases h2 : a = x
      · subst h2
        by_cases hv : v = 0#8
        · simp only [Memory.write, Nat.lt_irrefl, hv, if_true, if_false]
          exact Memory.wfFrom_mono m (a + 1) lo h.2 (by omega)
        · simp only [Memory.write, Nat.lt_irrefl, hv, if_true, if_false, Memory.wfFrom, Bool.and_eq_true,
            decide_eq_true_eq]
          exact ⟨⟨ha, by simp [hv]⟩, h.2⟩
      · simp only [Memory.write, h1, h2, if_false, Memory.wfFrom, Bool.and_eq_true, decide_eq_true_eq]
        exact ⟨h.1, ih (x + 1) h.2 (by omega)⟩

/-- A write keeps the canonical form. -/
theorem Memory.write_wf (m : Memory) (a : Nat) (v : Byte) (h : m.wf = true) : (m.write a v).wf = true :=
  Memory.write_wfFrom m 0 a v h (Nat.zero_le a)

/-! ### Equal contents, equal data -/

theorem Memory.ext_from (m m' : Memory) (lo : Nat) (h : m.wfFrom lo = true) (h' : m'.wfFrom lo = true)
    (e : ∀ a, m.read a = m'.read a) : m = m' := by
  induction m generalizing m' lo with
  | nil =>
    cases m' with
    | nil => rfl
    | cons c m' =>
      obtain ⟨x, w⟩ := c
      simp only [Memory.wfFrom, Bool.and_eq_true, decide_eq_true_eq, bne_iff_ne, ne_eq] at h'
      have := e x
      simp only [Memory.read, if_true] at this
      exact absurd this.symm h'.1.2
  | cons c m ih =>
    obtain ⟨x, w⟩ := c
    simp only [Memory.wfFrom, Bool.and_eq_true, decide_eq_true_eq, bne_iff_ne, ne_eq] at h
    cases m' with
    | nil =>
      have := e x
      simp only [Memory.read, if_true] at this
      exact absurd this h.1.2
    | cons c' m' =>
      obtain ⟨x', w'⟩ := c'
      simp only [Memory.wfFrom, Bool.and_eq_true, decide_eq_true_eq, bne_iff_ne, ne_eq] at h'
      have hx : x = x' := by
        rcases Nat.lt_trichotomy x x' with hlt | heq | hgt
        · have h1 := e x
          have h2 : x ≠ x' := by omega
          simp only [Memory.read, if_true, h2, if_false] at h1
          rw [Memory.read_below m' (x' + 1) x h'.2 (by omega)] at h1
          exact absurd h1 h.1.2
        · exact heq
        · have h1 := e x'
          have h2 : x' ≠ x := by omega
          simp only [Memory.read, if_true, h2, if_false] at h1
          rw [Memory.read_below m (x + 1) x' h.2 (by omega)] at h1
          exact absurd h1.symm h'.1.2
      subst hx
      have hw : w = w' := by
        have := e x
        simpa only [Memory.read, if_true] using this
      subst hw
      have hm : m = m' := by
        refine ih m' (x + 1) h.2 h'.2 fun a => ?_
        by_cases ha : a = x
        · subst ha
          rw [Memory.read_below m (a + 1) a h.2 (by omega), Memory.read_below m' (a + 1) a h'.2 (by omega)]
        · have := e a
          simpa only [Memory.read, ha, if_false] using this
      rw [hm]

/-- Two memories in canonical form that read alike are the same list. -/
theorem Memory.ext (m m' : Memory) (h : m.wf = true) (h' : m'.wf = true) (e : ∀ a, m.read a = m'.read a) : m = m' :=
  Memory.ext_from m m' 0 h h' e

/-! ### Records -/

/-- Addresses of different bytes of the two banks differ. -/
theorem recordAddr_inj (b b' : Bank) (x x' : Nat) (k k' : Fin 6) (hx : x < 260) (hx' : x' < 260)
    (h : recordAddr b x k = recordAddr b' x' k') : b = b' ∧ x = x' ∧ k = k' := by
  have hk := k.isLt
  have hk' := k'.isLt
  have h6 : (260 * b.toNat + x) * 6 + k.val = (260 * b'.toNat + x') * 6 + k'.val := h
  have h1 : k.val = k'.val := by omega
  have h2 : 260 * b.toNat + x = 260 * b'.toNat + x' := by omega
  cases b <;> cases b' <;> simp only [Bank.toNat] at h2
  · exact ⟨rfl, by omega, Fin.ext h1⟩
  · omega
  · omega
  · exact ⟨rfl, by omega, Fin.ext h1⟩

/-- Storing a record keeps the canonical form. -/
theorem Memory.writeRecord_wf (m : Memory) (b : Bank) (x : Nat) (r : Vector Byte 6) (h : m.wf = true) :
    (m.writeRecord b x r).wf = true := by
  simp only [Memory.writeRecord, List.foldl]
  exact Memory.write_wf _ _ _ (Memory.write_wf _ _ _ (Memory.write_wf _ _ _ (Memory.write_wf _ _ _
    (Memory.write_wf _ _ _ (Memory.write_wf _ _ _ h)))))

/-- An address that is no byte of the record is left alone. -/
theorem Memory.read_writeRecord_ne (m : Memory) (b : Bank) (x a : Nat) (r : Vector Byte 6)
    (h : ∀ k, a ≠ recordAddr b x k) : (m.writeRecord b x r).read a = m.read a := by
  simp only [Memory.writeRecord, List.foldl]
  rw [Memory.read_write_ne _ _ _ _ (h 5), Memory.read_write_ne _ _ _ _ (h 4), Memory.read_write_ne _ _ _ _ (h 3),
    Memory.read_write_ne _ _ _ _ (h 2), Memory.read_write_ne _ _ _ _ (h 1), Memory.read_write_ne _ _ _ _ (h 0)]

theorem recordAddr_ne (b : Bank) (x : Nat) (k k' : Fin 6) (h : k ≠ k') : recordAddr b x k ≠ recordAddr b x k' := by
  have hk := k.isLt
  have hk' := k'.isLt
  intro e
  apply h
  apply Fin.ext
  simp only [recordAddr] at e
  omega

/-- Each byte of a stored record reads back. -/
theorem Memory.read_writeRecord_self (m : Memory) (b : Bank) (x : Nat) (r : Vector Byte 6) (k : Fin 6)
    (h : m.wf = true) : (m.writeRecord b x r).read (recordAddr b x k) = r[k] := by
  have w0 := Memory.write_wf m (recordAddr b x 0) r[(0 : Fin 6)] h
  have w1 := Memory.write_wf _ (recordAddr b x 1) r[(1 : Fin 6)] w0
  have w2 := Memory.write_wf _ (recordAddr b x 2) r[(2 : Fin 6)] w1
  have w3 := Memory.write_wf _ (recordAddr b x 3) r[(3 : Fin 6)] w2
  have w4 := Memory.write_wf _ (recordAddr b x 4) r[(4 : Fin 6)] w3
  have n : ∀ k k' : Fin 6, k ≠ k' → recordAddr b x k ≠ recordAddr b x k' := fun k k' => recordAddr_ne b x k k'
  simp only [Memory.writeRecord, List.foldl]
  match k with
  | 0 =>
    rw [Memory.read_write_ne _ _ _ _ (n 0 5 (by decide)), Memory.read_write_ne _ _ _ _ (n 0 4 (by decide)),
      Memory.read_write_ne _ _ _ _ (n 0 3 (by decide)), Memory.read_write_ne _ _ _ _ (n 0 2 (by decide)),
      Memory.read_write_ne _ _ _ _ (n 0 1 (by decide)), Memory.read_write_self _ _ _ h]
  | 1 =>
    rw [Memory.read_write_ne _ _ _ _ (n 1 5 (by decide)), Memory.read_write_ne _ _ _ _ (n 1 4 (by decide)),
      Memory.read_write_ne _ _ _ _ (n 1 3 (by decide)), Memory.read_write_ne _ _ _ _ (n 1 2 (by decide)),
      Memory.read_write_self _ _ _ w0]
  | 2 =>
    rw [Memory.read_write_ne _ _ _ _ (n 2 5 (by decide)), Memory.read_write_ne _ _ _ _ (n 2 4 (by decide)),
      Memory.read_write_ne _ _ _ _ (n 2 3 (by decide)), Memory.read_write_self _ _ _ w1]
  | 3 =>
    rw [Memory.read_write_ne _ _ _ _ (n 3 5 (by decide)), Memory.read_write_ne _ _ _ _ (n 3 4 (by decide)),
      Memory.read_write_self _ _ _ w2]
  | 4 => rw [Memory.read_write_ne _ _ _ _ (n 4 5 (by decide)), Memory.read_write_self _ _ _ w3]
  | 5 => rw [Memory.read_write_self _ _ _ w4]

/-- A stored record reads back whole. -/
theorem Memory.readRecord_writeRecord_self (m : Memory) (b : Bank) (x : Nat) (r : Vector Byte 6) (h : m.wf = true) :
    (m.writeRecord b x r).readRecord b x = r := by
  apply Vector.ext
  intro k hk
  simp only [Memory.readRecord, Vector.getElem_ofFn]
  exact Memory.read_writeRecord_self m b x r ⟨k, hk⟩ h

/-- Every other record of either bank is left alone. -/
theorem Memory.readRecord_writeRecord_ne (m : Memory) (b b' : Bank) (x x' : Nat) (r : Vector Byte 6) (hx : x < 260)
    (hx' : x' < 260) (h : b' ≠ b ∨ x' ≠ x) : (m.writeRecord b x r).readRecord b' x' = m.readRecord b' x' := by
  apply Vector.ext
  intro k hk
  simp only [Memory.readRecord, Vector.getElem_ofFn]
  apply Memory.read_writeRecord_ne
  intro k' e
  obtain ⟨hb, hxx, -⟩ := recordAddr_inj b' b x' x ⟨k, hk⟩ k' hx' hx e
  rcases h with h | h
  · exact h hb
  · exact h hxx

end Sys2Proof.Machine
end

