-- ==== Sys2Proof/Laws/Ticks.lean ====
section
/-! SUPPORT. What a tick counts, which lanes it makes expire, and that SILENCE_EXPIRY is such a tick. -/

namespace Sys2Proof.Machine

variable (s : State) (i : LaneId)

@[simp] theorem State.countTick_tables : s.countTick.tables = s.tables := rfl
@[simp] theorem State.countTick_queues : s.countTick.queues = s.queues := rfl
@[simp] theorem State.countTick_records : s.countTick.records = s.records := rfl
@[simp] theorem State.countTick_attn : s.countTick.attn = s.attn := rfl
@[simp] theorem State.countTick_resetLow : s.countTick.resetLow = s.resetLow := rfl
@[simp] theorem State.countTick_choices : s.countTick.choices = s.choices := rfl
@[simp] theorem State.countTick_pending : s.countTick.pending = s.pending := rfl
@[simp] theorem State.countTick_counter : s.countTick.time.counter = s.time.counter + 1 := rfl

@[simp] theorem State.lane_countTick : s.countTick.lane i = (s.lane i).countSilence := by
  simp [State.countTick, State.lane]

/-- Counting changes the silence counter alone. -/
theorem LaneState.countSilence_eq (l : LaneState) :
    l.countSilence = { l with intake := { l.intake with silence := l.countSilence.intake.silence } } := by
  unfold LaneState.countSilence
  split <;> rfl

/-- The part's count is the one that the statements speak of. -/
theorem State.countTick_eq : s.countTick = tickedState s := by
  have h : ∀ l : LaneState, l.countSilence =
      if l.engine.lock ≠ .off ∧ l.intake.silent = false then
        { l with intake := { l.intake with
          silence := if l.intake.silence = 255 then 255 else l.intake.silence + 1 } }
      else l := by
    intro l
    have hs : satInc l.intake.silence = if l.intake.silence = 255 then 255 else l.intake.silence + 1 := by
      unfold satInc
      split <;> simp_all
    simp [LaneState.countSilence, LaneState.countsTicks, LaneState.running, hs]
  unfold State.countTick tickedState
  congr 1
  exact congrArg (fun f => s.lanes.map f) (funext h)

/-- The comparison of R4, in the statements' words. -/
theorem LaneState.silenceDue_iff (l : LaneState) : l.silenceDue = true ↔ ExpiryDue l := by
  simp [LaneState.silenceDue, LaneState.countsTicks, LaneState.running, ExpiryDue, and_assoc,
    Nat.one_le_iff_ne_zero, ← BitVec.toNat_inj]

/-- The lanes that a tick makes expire. -/
theorem State.mem_dueLanes : i ∈ s.dueLanes ↔ (s.lane i).silenceDue = true := by
  simp [State.dueLanes]

theorem State.dueLanes_nodup : s.dueLanes.Nodup := (List.nodup_finRange 4).filter _

/-- What a tick keeps: anything that counting, an expiry and the use of a free choice keep. -/
theorem takeTick_keeps (P : State → Prop) (ht : ∀ s, P s → P s.countTick)
    (hc : ∀ s n, P s → P { s with choices := n }) (he : ∀ s i, P s → P (s.expireSilence i)) (hs : P s) :
    P (takeTick s) :=
  State.expireAll_keeps P hc he _ _ (ht s hs)

/-- SILENCE_EXPIRY is the tick that makes its lane expire, or nothing. -/
theorem silenceEvent_cases :
    (ExpiryDue ((tickedState s).lane i) ∧ silenceEvent i s = takeTick s) ∨
    (¬ExpiryDue ((tickedState s).lane i) ∧ silenceEvent i s = s) := by
  unfold silenceEvent
  rw [← State.countTick_eq, ← LaneState.silenceDue_iff]
  split
  · exact .inl ⟨‹_›, rfl⟩
  · exact .inr ⟨‹_›, rfl⟩

end Sys2Proof.Machine
end

