-- ==== Sys2Proof/WellFormed.lean ====
section
/-! DEFINITION. Which commands have the shape their table row describes. Operand ranges are carried by the operand
types; the checks left are those of COMMAND_BAD_CODE (a code that is no command), DMA_ACKNOWLEDGE_READ (a read strobe
with one acknowledge low) and REGISTER_WRITE (a write, to a register without a row of its own). Every meaning is total,
so a command that fails its check still does what the rules say of it. -/

namespace Sys2Proof

/-- The codes of the commands that the table of R157 lists. -/
def commandCodes : List Byte :=
  [0x01, 0x02, 0x03, 0x10, 0x11, 0x20, 0x21, 0x22, 0x30, 0x31, 0x40, 0x7F]

/-- The addresses whose writes have a row of their own: CMD, LSEL, PIDX, PDATA, TWIDX, TWDATA, TRIDX, TRBANK, QSEL,
QMODE, QQUOTA, QTHR and DBIND (R164). -/
def ownedWrites : List Addr :=
  [0x00, 0x0C, 0x0D, 0x0E, 0x14, 0x15, 0x16, 0x18, 0x19, 0x1B, 0x20, 0x21, 0x22, 0x23, 0x24, 0x25, 0x30, 0x31]

/-- The command is one that its table row describes. -/
def WellFormed : Instr → Bool
  | .takeBit _ _ => true
  | .tick => true
  | .silenceExpiry _ => true
  | .copyStep => true
  | .laneStart => true
  | .laneStop => true
  | .laneResync => true
  | .tableSwap => true
  | .tableCopy => true
  | .queueOpen => true
  | .queueHold => true
  | .queueDisable => true
  | .timeLatch => true
  | .timeLoad => true
  | .recordsFlush => true
  | .softReset => true
  | .commandBadCode code => !commandCodes.contains code
  | .hardwareReset => true
  | .resetRelease => true
  | .lselWrite _ => true
  | .pidxWrite _ => true
  | .pdataRead => true
  | .pdataWrite _ => true
  | .lslipRead => true
  | .lseqRead _ => true
  | .twidxWrite _ _ => true
  | .twidxRead _ => true
  | .twdataWrite _ => true
  | .tridxWrite _ _ => true
  | .tridxRead _ => true
  | .trbankWrite _ => true
  | .trdataRead => true
  | .qselWrite _ => true
  | .qquotaWrite _ _ => true
  | .qthrWrite _ _ => true
  | .qmodeWrite _ => true
  | .qdepthRead _ => true
  | .qlostRead _ => true
  | .poolfreeRead _ => true
  | .qdataRead _ => true
  | .dbindWrite _ _ => true
  | .ddataRead _ _ => true
  | .dmaAcknowledgeRead (.read _) => true
  | .dmaAcknowledgeRead _ => false
  | .rdataRead _ => true
  | .rlossRead => true
  | .timeRead _ => true
  | .adataRead _ => true
  | .registerWrite .write addr _ => !ownedWrites.contains addr
  | .registerWrite _ _ _ => false

end Sys2Proof
end

