-- ==== Sys2Proof/Tests/Slice0.lean ====
section
/-! SUPPORT. Tests of single steps, with the source of each expected value, and one witness for each statement that has
hypotheses: a concrete state and operands that meet all of them together. -/

namespace Sys2Proof.Tests

open Sys2Proof Sys2Proof.Machine

/-! ### WellFormed refuses ill-formed commands -/

theorem test_wellFormed_badCode : WellFormed (.commandBadCode 0x41) = true ∧ WellFormed (.commandBadCode 0x40) = false := by
  decide

theorem test_wellFormed_acknowledge :
    WellFormed (.dmaAcknowledgeRead (.read 1)) = true ∧ WellFormed (.dmaAcknowledgeRead .readBoth) = false ∧
    WellFormed (.dmaAcknowledgeRead .write) = false ∧ WellFormed (.dmaAcknowledgeRead .readAndWrite) = false ∧
    WellFormed (.dmaAcknowledgeRead .noStrobe) = false := by decide

theorem test_wellFormed_registerWrite :
    WellFormed (.registerWrite .write 0x58 0) = true ∧ WellFormed (.registerWrite .write 0x0C 0) = false ∧
    WellFormed (.registerWrite .read 0x58 0) = false ∧ WellFormed (.registerWrite .readAndWrite 0x58 0) = false ∧
    WellFormed (.registerWrite .unselected 0x58 0) = false := by decide

/-! ### States -/

/-- The machine after hardware reset, as a short name. -/
def up : State := State.reset

/-- W 8, S 1, N 3 (L 8, F 24), pattern A5h, Es 1, El 1, C 2, K 1, NORMAL, slip window on, ALL, silence limit 3, M 4,
Cw 1, B 2, Ck 2, seed FFFFh. -/
def profile : Profile where
  bytes := #v[8, 1, 3, 0, 0xA5, 0, 0, 0, 0xFF, 0, 0, 0, 0x11, 0x12, 0x14, 3, 3, 1, 0, 2, 2, 0, 0xFF, 0xFF]

/-- The last `n` bits of a number, bit 0 the newest. -/
def bits (n v : Nat) : List HistBit := (List.range n).map fun k => { recv := v.testBit k, corr := v.testBit k }

/-- A frame in progress. -/
def frame : Frame := { kind := .confirm, slip := .none, errors := 0, timeTag := 7, seq := 4 }

/-- A lane with the test profile: OFF. -/
def offLane : LaneState := { LaneState.reset with intake := { Intake.reset with profile := profile } }

/-- A lane in SEARCH or CHECK at a bit position, with a history. -/
def syncLane (st : LockState) (pos : Nat) (h : List HistBit) : LaneState :=
  { offLane with intake := { offLane.intake with hist := h },
                 engine := { offLane.engine with lock := st, bitPos := pos } }

/-- A lane in LOCK or COAST at a bit position, with a history and perhaps a late test. -/
def frameLane (st : LockState) (pos : Nat) (h : List HistBit) (late : Option Nat) : LaneState :=
  { offLane with
    intake := { offLane.intake with hist := h },
    engine := { offLane.engine with lock := st, bitPos := pos, late := late, frame := some frame },
    tracker := { offLane.tracker with frameState := some .search },
    selector := { offLane.selector with isOpen := true, segStop := some 4, kind := some .confirm, seq3 := 4 },
    check := { offLane.check with reg := 0xFFFF, state := some .pending } }

/-- The machine after reset, with lane 0 replaced. -/
def at0 (l : LaneState) : State := up.setLane 0 l

/-- A word record. -/
def word : WordRecord := { value := 5, tag := 6, lane := 1, coasted := false, verified := true, seq3 := 2 }

/-- The machine after reset, with queue 0 replaced and so many free slots. -/
def withQ (q : Queue) (free : Nat) : State := { up.setQueue 0 q with queues.free := free }

/-- An OPEN queue of quota 2 and threshold 2. -/
def openQ (entries : List WordRecord) : Queue := { Queue.reset with state := .opened, quota := 2, threshold := 2,
                                                                    entries := entries }

/-! ### Printed examples of the spec -/

/-- 05_frame_check_and_staged_delivery.md: register FFFFh fed 12h, 34h, 56h with W 8. -/
theorem test_crc_words :
    crcBits 0x12 8 0xFFFF = 0xD383 ∧ crcBits 0x34 8 0xD383 = 0x0EC9 ∧ crcBits 0x56 8 0x0EC9 = 0x12FD := by decide

/-- 11_register_window_and_formats.md: the released word 6 of the Worked Frame. -/
theorem test_word_record_bytes :
    ({ value := 0x0F0, tag := 0x20, lane := 3, coasted := false, verified := true, seq3 := 5 } : WordRecord).bytes =
      #v[0xF0, 0x00, 0x20, 0xED] := by decide

/-- 11_register_window_and_formats.md: the first six bytes of the record of frame 3 of the Worked Acquisition. -/
theorem test_frame_record_bytes :
    (({ lane := 0, kind := .lock, slip := .late, endClass := .normal, errors := 1, inverted := false, seq := 3,
        timeTag := 0, cyclePos := 0, cycleState := .counted, delivered := 0, queueLoss := 0, withheld := 0,
        result := .noCheck, overflow := false, discarded := 0, gap := false } : FrameRecord).bytes.toList.take 6) =
      [0x88, 0x01, 0x03, 0x00, 0x00, 0x13] := by decide

/-- 11_register_window_and_formats.md: the first record popped in the Worked Coalescing. -/
theorem test_attention_bytes :
    ({ cause := .queueLoss, source := 4, count := 2, first := 0x1A00 } : AttnRecord).bytes =
      #v[0x0B, 0x04, 0x02, 0x00, 0x1A] := by decide

/-- 11_register_window_and_formats.md: entry 47 of the Worked Frame. -/
theorem test_entry_bytes :
    SelEntry.ofBytes #v[0x16, 0x30, 0, 0, 0x50, 0x80] =
      { valid := true, position := 22, mode := .all, a := 0, k := 0, queue := 1, gated := true, tag := 0x50 } := by decide

/-- 11_register_window_and_formats.md: the lane 1 directory record of the worked swap. -/
theorem test_directory_bytes : DirRecord.ofBytes #v[0x10, 0x07, 0, 0, 0, 0] = { base := 16, count := 7 } := by decide

/-- 11_register_window_and_formats.md: the packed bytes 12, 13, 14 of the example lane: 21h, 32h, 0Eh. -/
theorem test_profile_packed :
    let p : Profile := { bytes := ((profile.bytes.set 12 0x21).set 13 0x32).set 14 0x0E }
    p.searchTol = 1 ∧ p.lockTol = 2 ∧ p.checkCount = 2 ∧ p.coastLimit = 3 ∧ p.polarityMode = 2 ∧
    p.slipWindow = true ∧ p.recordMode = 1 := by decide

/-- 11_register_window_and_formats.md: a lane in LOCK and CY_LOCK, NORMAL, not silent, not pending, reads 43h. -/
theorem test_lstat :
    (at0 { frameLane .lock 9 [] none with tracker := { offLane.tracker with state := .lock } }).lstat 0 = 0x43 := by
  decide

/-! ### Single steps, from the rules -/

/-- What a command drives on the data lines. -/
def driven (c : Instr) (s : State) : Option Byte :=
  match exec c s with
  | .next t => t.dataOut
  | .fault _ => none
  | .refused _ => none

/-- The state after a command. -/
def after (c : Instr) (s : State) : State :=
  match exec c s with
  | .next t => t
  | .fault _ => s
  | .refused _ => s

/-- The reset profile has an empty compare mask, so condition 4 of R14 fails (R13): CSTAT 65h (R167). -/
theorem test_start_of_reset_profile : driven (.registerWrite .read 2 0) (after .laneStart up) = some 0x65 := by decide

/-- R14, R15: with a good profile the lane is in SEARCH and CSTAT reads DONE, 20h. -/
theorem test_start :
    ((after .laneStart (at0 offLane)).lane 0).engine.lock = .search ∧
    driven (.registerWrite .read 2 0) (after .laneStart (at0 offLane)) = some 0x20 := by decide

/-- R23: the window A5h matches at its last bit; the lane enters CHECK at position L-1 = 7. -/
theorem test_search_match :
    ((after (.takeBit 0 true) (at0 (syncLane .search 0 (bits 7 0x52)))).lane 0).engine.lock = .check ∧
    ((after (.takeBit 0 true) (at0 (syncLane .search 0 (bits 7 0x52)))).lane 0).engine.bitPos = 7 := by decide

/-- R22: seven bits are no window. -/
theorem test_search_short :
    ((after (.takeBit 0 true) (at0 (syncLane .search 0 (bits 6 0x52)))).lane 0).engine.lock = .search := by decide

/-- R157: a code outside the table reads back from CLAST, with CSTAT BAD_CODE, 61h. -/
theorem test_bad_code :
    driven (.registerWrite .read 3 0) (after (.commandBadCode 0x41) up) = some 0x41 ∧
    driven (.registerWrite .read 2 0) (after (.commandBadCode 0x41) up) = some 0x61 := by decide

/-- R120, R171: a pop gives low byte, high byte, tag, then 80h + lane 1 + verified + seq3 2; the slot is free again. -/
theorem test_pop :
    (after (.qdataRead 0) (withQ (openQ [word]) 1023)).queues.hostHold = #v[5, 0, 6, 0xAA] ∧
    (after (.qdataRead 0) (withQ (openQ [word]) 1023)).queues.free = 1024 := by decide

/-- R94, R97: a high byte with bit 0 set and 03h held forms 259; 04h held forms 260, refused. -/
theorem test_cursor_edge :
    (after (.twidxWrite .high 0xFF) (after (.twidxWrite .low 3) up)).tables.wIdx = 259 ∧
    (after (.twidxWrite .high 0xFF) (after (.twidxWrite .low 4) up)).tables.wIdx = 0 := by decide

/-- R161: while RESET# is low a read returns 00h, whatever the register holds. -/
theorem test_reset_low :
    driven (.registerWrite .read 0x1 0) { up with carg := 7, resetLow := true } = some 0 ∧
    driven (.registerWrite .read 0x1 0) { up with carg := 7 } = some 7 := by decide

/-- R9: the low byte of N is held; the high byte stores both. -/
theorem test_profile_field :
    ((after (.pdataWrite 0x34) { up with pidx := 2 }).lane 0).intake.profile = Profile.reset ∧
    ((after (.pdataWrite 1) (after (.pdataWrite 0x34) { up with pidx := 2 })).lane 0).intake.profile.frameWords =
      0x134 := by decide

/-- R104: copying record 259 ends the copy. -/
theorem test_copy_ends :
    (after .copyStep { up with tables.copying := true, tables.copyIdx := 259 }).tables.copying = false ∧
    (after .copyStep { up with tables.copying := true, tables.copyIdx := 258 }).tables.copying = true := by decide

/-! ### Soundness of the states used below -/

theorem reset_started : StartedOk LaneState.reset := by
  constructor <;> decide

theorem reset_frame : FrameOk LaneState.reset := by
  constructor <;> first | decide | (constructor <;> decide)

theorem up_lane (j : LaneId) : up.lane j = LaneState.reset := by
  simp [up, State.lane, State.reset]

theorem started_at0 {l : LaneState} (h : StartedOk l) : LanesStarted (at0 l) := by
  intro j
  rw [at0, State.lane_setLane]
  split
  · exact h
  · rw [up_lane]; exact reset_started

theorem frames_at0 {l : LaneState} (h : FrameOk l) : FramesOk (at0 l) := by
  intro j
  rw [at0, State.lane_setLane]
  split
  · exact h
  · rw [up_lane]; exact reset_frame

/-- The test profile in AUTO, and in INVERTED. -/
def withMode (m : Byte) (l : LaneState) : LaneState :=
  { l with intake := { l.intake with profile := { bytes := l.intake.profile.bytes.set 14 m } } }

/-! ### Witnesses: the machine -/

theorem witness_StepRunsFrontCommand :
    ({ up with pending := [.tick, .laneStart] } : State).pending = .tick :: [.laneStart] ∧ up.pending = [] := by decide

theorem witness_CommandsAnswerAndResetLowHolds :
    ({ up with resetLow := true } : State).resetLow = true ∧ Instr.takeBit 0 true ≠ .hardwareReset ∧
    Instr.takeBit 0 true ≠ .resetRelease := by decide

/-! ### Witnesses: a lane bit -/

theorem witness_TakeBitWithoutEvent_off :
    (at0 offLane).resetLow = false ∧ LanesStarted (at0 offLane) ∧ ((at0 offLane).lane 0).engine.lock = .off :=
  ⟨rfl, started_at0 (by constructor <;> decide), by decide⟩

/-- Two mismatches with Es 1, in a window that exists; and a window one bit short. -/
theorem witness_TakeBitWithoutEvent_search :
    let l := syncLane .search 0 (bits 7 0x53)
    let x := takenIntake l.intake false
    let y := takenIntake (syncLane .search 0 (bits 6 0x52)).intake true
    (at0 l).resetLow = false ∧ LanesStarted (at0 l) ∧ ((at0 l).lane 0).engine.lock = .search ∧
    x.hist.length = x.profile.syncLen ∧ x.profile.searchTol < mismatchCount x.profile (receivedBit x) ∧
    x.profile.polarityMode = 0 ∧
    LanesStarted (at0 (syncLane .search 0 (bits 6 0x52))) ∧ y.hist.length + 1 = y.profile.syncLen :=
  ⟨rfl, started_at0 (by constructor <;> decide), by decide, by decide, by decide, by decide,
    started_at0 (by constructor <;> decide), by decide⟩

/-- The bits before and after the evaluation bit of CHECK. -/
theorem witness_TakeBitWithoutEvent_check :
    let l := syncLane .check 5 (bits 8 0x52)
    let r := syncLane .check 7 (bits 8 0xA5)
    (at0 l).resetLow = false ∧ LanesStarted (at0 l) ∧ ((at0 l).lane 0).engine.lock = .check ∧
    (steppedLane l true).engine.bitPos + 1 ≠ profile.syncLen ∧
    LanesStarted (at0 r) ∧ ((at0 r).lane 0).engine.lock = .check ∧
    (steppedLane r true).engine.bitPos + 1 ≠ profile.syncLen :=
  ⟨rfl, started_at0 (by constructor <;> decide), by decide, by decide,
    started_at0 (by constructor <;> decide), by decide, by decide⟩

/-- The bit before the one that completes word 1 of a frame, in LOCK. -/
theorem witness_TakeBitWithoutEvent_lock :
    let l := frameLane .lock 13 (bits 9 0xA5) none
    let m := steppedLane l true
    (at0 l).resetLow = false ∧ LanesStarted (at0 l) ∧ ((at0 l).lane 0).engine.lock = .lock ∧
    ((at0 l).lane 0).engine.late = none ∧ m.engine.bitPos + 1 ≠ m.intake.profile.syncLen ∧
    (∀ k, m.intake.profile.syncWords ≤ k → k < m.intake.profile.frameWords →
      m.engine.bitPos ≠ k * m.intake.profile.wordLen + m.intake.profile.wordLen - 1) := by
  refine ⟨rfl, started_at0 (by constructor <;> decide), by decide, by decide, by decide, ?_⟩
  intro k _ _ h
  have h' : 14 = k * 8 + 8 - 1 := h
  omega

/-- One mismatch, Es 1, in NORMAL and in AUTO; the polarity stays. -/
theorem witness_SearchMatchAligns_stays :
    let l := syncLane .search 0 (bits 7 0x52)
    let x := takenIntake l.intake false
    let y := takenIntake (withMode 0x16 l).intake false
    (at0 l).resetLow = false ∧ ((at0 l).lane 0).engine.lock = .search ∧ x.profile.syncLen ≤ x.hist.length ∧
    x.profile.polarityMode = 0 ∧ mismatchCount x.profile (receivedBit x) = x.profile.searchTol ∧
    ((at0 l).lane 0).intake.polarity = .normal ∧
    y.profile.polarityMode = 2 ∧ mismatchCount y.profile (receivedBit y) = y.profile.searchTol := by decide

/-- The complement of the pattern, in INVERTED and in AUTO; the polarity changes. -/
theorem witness_SearchMatchAligns_changes :
    let l := withMode 0x16 (syncLane .search 0 (bits 7 0x2D))
    let x := takenIntake l.intake false
    let y := takenIntake (withMode 0x15 (syncLane .search 0 (bits 7 0x2D))).intake false
    (at0 l).resetLow = false ∧ ((at0 l).lane 0).engine.lock = .search ∧ x.profile.syncLen ≤ x.hist.length ∧
    x.profile.polarityMode = 2 ∧ ¬mismatchCount x.profile (receivedBit x) ≤ x.profile.searchTol ∧
    complementCount x.profile (receivedBit x) ≤ x.profile.searchTol ∧
    ((at0 l).lane 0).intake.polarity ≠ .inverted ∧
    y.profile.polarityMode = 1 ∧ complementCount y.profile (receivedBit y) ≤ y.profile.searchTol := by decide

/-- Two mismatches with El 1; one mismatch with good count 0 and with good count 1 of C 2. -/
theorem witness_CheckEvaluation :
    let a := syncLane .check 6 (bits 8 0x53)
    let b := syncLane .check 6 (bits 8 0x52)
    let c := { b with engine := { b.engine with good := 1 } }
    (at0 a).resetLow = false ∧ LanesStarted (at0 a) ∧ ((at0 a).lane 0).engine.lock = .check ∧
    (steppedLane a false).engine.bitPos + 1 = profile.syncLen ∧
    exactErrors (steppedLane a false).intake = profile.lockTol + 1 ∧
    LanesStarted (at0 b) ∧ exactErrors (steppedLane b false).intake = profile.lockTol ∧
    (steppedLane b false).engine.good + 1 < profile.checkCount ∧
    LanesStarted (at0 c) ∧ exactErrors (steppedLane c false).intake = profile.lockTol ∧
    (steppedLane c false).engine.good + 1 = profile.checkCount :=
  ⟨rfl, started_at0 (by constructor <;> decide), by decide, by decide, by decide,
    started_at0 (by constructor <;> decide), by decide, by decide,
    started_at0 (by constructor <;> decide), by decide, by decide⟩

/-- An exact window at El 1; an early window at El 1; neither; and neither with the slip window off. -/
theorem witness_LockEvaluation :
    let a := frameLane .lock 6 (bits 9 0x52) none
    let b := frameLane .coast 6 (bits 9 0xA4) none
    let c := frameLane .lock 6 (bits 9 0) none
    let d := withMode 0x10 c
    (at0 a).resetLow = false ∧ LanesStarted (at0 a) ∧ ((at0 a).lane 0).engine.lock = .lock ∧
    ((at0 a).lane 0).engine.late = none ∧ ((at0 a).lane 0).engine.frame = some frame ∧
    (steppedLane a false).engine.bitPos + 1 = profile.syncLen ∧
    exactErrors (steppedLane a false).intake = profile.lockTol ∧
    LanesStarted (at0 b) ∧ ((at0 b).lane 0).engine.lock = .coast ∧
    profile.lockTol < exactErrors (steppedLane b false).intake ∧ profile.slipWindow = true ∧
    earlyErrors (steppedLane b false).intake = profile.lockTol ∧
    LanesStarted (at0 c) ∧ profile.lockTol < exactErrors (steppedLane c false).intake ∧
    profile.lockTol < earlyErrors (steppedLane c false).intake ∧
    LanesStarted (at0 d) ∧ d.intake.profile.slipWindow = false ∧
    d.intake.profile.lockTol < exactErrors (steppedLane d false).intake :=
  ⟨rfl, started_at0 (by constructor <;> decide), by decide, by decide, by decide, by decide, by decide,
    started_at0 (by constructor <;> decide), by decide, by decide, by decide, by decide,
    started_at0 (by constructor <;> decide), by decide, by decide,
    started_at0 (by constructor <;> decide), by decide, by decide⟩

/-- A late window with one mismatch, and with two, for a recorded El of 1. -/
theorem witness_LateTestCompletes :
    let a := frameLane .lock 7 (bits 9 0x52) (some 1)
    let b := frameLane .coast 7 (bits 9 0x53) (some 1)
    (at0 a).resetLow = false ∧ LanesStarted (at0 a) ∧ ((at0 a).lane 0).engine.lock = .lock ∧
    ((at0 a).lane 0).engine.late = some 1 ∧ ((at0 a).lane 0).engine.frame = some frame ∧
    exactErrors (steppedLane a false).intake = 1 ∧
    LanesStarted (at0 b) ∧ ((at0 b).lane 0).engine.lock = .coast ∧ ((at0 b).lane 0).engine.late = some 1 ∧
    exactErrors (steppedLane b false).intake = 2 :=
  ⟨rfl, started_at0 (by constructor <;> decide), by decide, by decide, by decide, by decide,
    started_at0 (by constructor <;> decide), by decide, by decide, by decide⟩

/-- The last bit of word 1, the first data word, and of word 2, the last. -/
theorem witness_DataWordCompletes :
    let a := frameLane .lock 14 (bits 16 0xA505) none
    let b := frameLane .coast 22 (bits 24 0xA50506) none
    (at0 a).resetLow = false ∧ LanesStarted (at0 a) ∧ ((at0 a).lane 0).engine.lock = .lock ∧
    ((at0 a).lane 0).engine.late = none ∧ ((at0 a).lane 0).engine.frame = some frame ∧
    profile.syncWords = 1 ∧ (steppedLane a true).engine.bitPos = 1 * profile.wordLen + profile.wordLen - 1 ∧
    LanesStarted (at0 b) ∧ ((at0 b).lane 0).engine.lock = .coast ∧ 2 + 1 = profile.frameWords ∧
    (steppedLane b true).engine.bitPos = 2 * profile.wordLen + profile.wordLen - 1 :=
  ⟨rfl, started_at0 (by constructor <;> decide), by decide, by decide, by decide, by decide, by decide,
    started_at0 (by constructor <;> decide), by decide, by decide, by decide⟩

/-- A bit that gains lock. -/
theorem witness_TakeBitFrame :
    ∃ t, exec (.takeBit 0 true) (at0 { syncLane .check 6 (bits 8 0x52) with
      engine := { offLane.engine with lock := .check, bitPos := 6, good := 1 } }) = .next t ∧
      (t.lane 0).engine.lock = .lock := ⟨_, rfl, by decide⟩

/-! ### Witnesses: a frame's start and end -/

/-- A record of a frame without an exception, and one with a withheld word. -/
def plainRecord : FrameRecord :=
  { lane := 1, kind := .lock, slip := .none, endClass := .normal, errors := 1, inverted := false, seq := 3,
    timeTag := 0, cyclePos := 0, cycleState := .counted, delivered := 2, queueLoss := 0, withheld := 0,
    result := .good, overflow := false, discarded := 0, gap := false }

theorem witness_FrameRecordOffered :
    (0 : BitVec 2) ≠ 3 ∧ (1 : BitVec 2) ≠ 3 ∧ (2 : BitVec 2) ≠ 3 ∧ plainRecord.exceptional = false ∧
    1 ≤ ({ plainRecord with withheld := 1 } : FrameRecord).withheld.toNat ∧
    ({ up with records.list := List.replicate 63 plainRecord } : State).records.list.length = 63 ∧
    ({ up with records.list := List.replicate 64 plainRecord } : State).records.list.length = 64 := by decide

/-- Lane 0 takes the bank while lane 1 is pending, and as the last one; lane 2 has it already. -/
theorem witness_LaneTakesActiveBank :
    let s : State := { at0 { offLane with bankInUse := .bank1 } with tables.swapping := true }
    let t := s.setLane 1 { offLane with bankInUse := .bank1 }
    (s.lane 2).bankInUse = s.tables.active ∧ (s.lane 0).bankInUse ≠ s.tables.active ∧
    (∀ j, j ≠ 0 → (s.lane j).bankInUse = s.tables.active) ∧
    (t.lane 0).bankInUse ≠ t.tables.active ∧ (∃ j, j ≠ 0 ∧ (t.lane j).bankInUse ≠ t.tables.active) := by decide

theorem witness_CycleAtFrameStart :
    Profile.reset.counterWord = 0 ∧ profile.counterWord ≠ 0 ∧ 2 ≤ profile.cycleLen ∧
    ({ Tracker.reset with state := .search } : Tracker).state = .search ∧
    ({ Tracker.reset with state := .verify } : Tracker).state = .verify ∧
    ({ Tracker.reset with state := .lock } : Tracker).state = .lock := by decide

/-! ### Witnesses: the partners of a data word -/

/-- A lane of cycle length 3 with a tracker. -/
def cycleLane (st : CycleState) (miss : Nat) (pred : Option Byte) : LaneState :=
  { frameLane .lock 15 [] none with
    intake := { offLane.intake with profile := { bytes := profile.bytes.set 16 2 } },
    tracker := { offLane.tracker with state := st, miss := miss, prediction := pred } }

/-- B 2 and M 3: the counter values 2 and 3 are the last valid and the first invalid one; the counter word is word 1. -/
theorem witness_CounterWordMovesCycle :
    let p := (cycleLane .search 0 none).intake.profile
    p.counterWord = 1 ∧ p.cycleLen = 3 ∧ p.syncWords ≤ 1 ∧ (2 : Nat) ≠ p.counterWord ∧
    (0xF2 : BitVec 16).toNat % 2 ^ p.counterWidth = 2 ∧ (0xF3 : BitVec 16).toNat % 2 ^ p.counterWidth = 3 ∧
    (cycleLane .search 0 none).tracker.state = .search ∧
    (cycleLane .verify 0 (some 2)).tracker.prediction = some (BitVec.ofNat 8 2) ∧
    (cycleLane .verify 0 (some 1)).tracker.prediction ≠ some (BitVec.ofNat 8 2) ∧
    (cycleLane .lock 1 (some 2)).tracker.prediction = some 2 ∧ (cycleLane .lock 1 (some 2)).tracker.miss = 1 ∧
    (cycleLane .lock 0 (some 1)).tracker.prediction = some 1 ∧ (cycleLane .lock 0 (some 1)).tracker.miss = 0 := by
  decide

theorem witness_CheckRegisterWordForm :
    8 ≤ 16 ∧ (0x12 : BitVec 16).toNat < 2 ^ 8 ∧ 16 ≤ 16 ∧ (0xFFFF : BitVec 16).toNat < 2 ^ 16 := by decide

/-- A frame lane with a check register, a flag and a staging list. -/
def stagedLane (reg : BitVec 16) (full : Bool) (n : Nat) : LaneState :=
  { frameLane .lock 15 [] none with
    check := { reg := reg, state := some .pending, staging := List.replicate n { queue := 0, word := word },
               overflow := full, discarded := 0 } }

/-- Ck 2 and S 1: words 0, 1, 2 and 3; register 12FDh against FDh and 7Dh; with and without overflow; and no check. -/
theorem witness_CheckWordSettles :
    let p := (stagedLane 0x12FD false 1).intake.profile
    Profile.reset.checkWord = 0 ∧ p.checkWord = 2 ∧ p.syncWords = 1 ∧
    (stagedLane 0x12FD false 1).check.state = some .pending ∧
    (stagedLane 0x12FD false 1).check.reg.toNat % 2 ^ p.wordLen = (0xFD : BitVec 16).toNat ∧
    (stagedLane 0x12FD false 1).check.reg.toNat % 2 ^ p.wordLen ≠ (0x7D : BitVec 16).toNat ∧
    (stagedLane 0x12FD false 1).check.overflow = false ∧ (stagedLane 0x12FD true 32).check.overflow = true := by decide

/-- The first and the last data word, with the cursor at its base and at the segment end; and a sync word. -/
theorem witness_SegmentWalkEvaluates :
    let l := frameLane .lock 15 [] none
    let m := { l with selector := { l.selector with cursor := 4 } }
    l.selector.isOpen = true ∧ l.selector.segStop = some 4 ∧ l.selector.cursor ≤ 4 ∧ m.selector.cursor ≤ 4 ∧
    profile.syncWords = 1 ∧ profile.frameWords = 3 ∧ 0 < profile.syncWords ∧ offLane.selector.isOpen = false := by decide

/-- A lane at a cycle position, or at an unknown one. -/
def positionLane (pos : Option Byte) : LaneState :=
  { frameLane .lock 15 [] none with tracker := { offLane.tracker with framePos := pos } }

/-- Position 2: AT 2 and EVERY 2 from 0 select, AT 1 and EVERY with k 0 do not. An unknown position withholds, and ALL
selects at it. Word 1 comes before the check word 2, and word 2 is the check word. -/
theorem witness_EntryEvaluated :
    let e (m : FilterMode) (a k : Byte) : SelEntry :=
      { valid := true, position := 1, mode := m, a := a, k := k, queue := 0, gated := true, tag := 6 }
    let selects (e : SelEntry) (c : Byte) : Prop :=
      (e.mode = .atPos ∧ c = e.a) ∨ (e.mode = .every ∧ 1 ≤ e.k.toNat ∧ c.toNat % e.k.toNat = e.a.toNat)
    (positionLane (some 2)).tracker.framePos = some 2 ∧ (positionLane none).tracker.framePos = none ∧
    selects (e .atPos 2 0) 2 ∧ ¬selects (e .atPos 1 0) 2 ∧ selects (e .every 0 2) 2 ∧ ¬selects (e .every 0 0) 2 ∧
    ¬selects (e .parked 0 0) 2 ∧ (e .all 0 0).mode = .all ∧ (e .atPos 2 0).mode = .atPos ∧ (e .all 0 0).gated = true ∧
    Profile.reset.checkWord = 0 ∧ profile.checkWord ≠ 0 ∧ 1 < profile.checkWord ∧ profile.checkWord ≤ 2 := by decide

theorem witness_StagingListTakesWord :
    (stagedLane 0 false 31).check.staging.length = 31 ∧ (stagedLane 0 false 32).check.staging.length = 32 ∧
    (stagedLane 0 false 32).check.overflow = false ∧ (stagedLane 0 true 32).check.overflow = true := by decide

/-- Room for one and for none, by quota and by pool; an empty queue without room; HELD; DISABLED. -/
theorem witness_WordReachesQueue :
    let s := withQ (openQ [word]) 1
    let f := withQ { openQ [word, word] with policy := .dropOld } 1022
    (s.queue 0).state = .opened ∧ (s.queue 0).entries.length < (s.queue 0).quota ∧ s.queues.free = 1 ∧
    (f.queue 0).policy = .dropOld ∧ (f.queue 0).entries = word :: [word] ∧
    ¬((f.queue 0).entries.length < (f.queue 0).quota ∧ 0 < f.queues.free) ∧
    ((withQ (openQ []) 0).queue 0).entries = [] ∧ (withQ (openQ []) 0).queues.free = 0 ∧
    ((withQ { openQ [] with state := .held } 5).queue 0).state = .held ∧ (up.queue 0).state = .disabled := by decide

/-- The mask closed; open on an empty list; open on a list whose second record is the pair. -/
theorem witness_PostingEntersList :
    let r : AttnRecord := { cause := .swapDone, source := 0xFF, count := 1, first := 0 }
    let q : AttnRecord := { cause := .queueLoss, source := 4, count := 255, first := 9 }
    up.attn.masks.getLsbD (Cause.queueLoss.code - 1) = false ∧
    (0x1FFFF : BitVec 17).getLsbD (Cause.queueLoss.code - 1) = true ∧
    (0x1FFFF : BitVec 17).getLsbD (Cause.configRefused.code - 1) = true ∧ [r, q] = [r] ++ q :: [] ∧
    (∀ x ∈ [r], ¬(x.cause = .queueLoss ∧ x.source = 4)) := by decide

/-! ### Witnesses: ticks, silence and copy steps -/

/-- A lane that counts, with its silence counter. -/
def quietLane (silence : Byte) : LaneState :=
  { syncLane .search 0 [] with intake := { offLane.intake with silence := silence } }

/-- Lane 0 counts, and is due when its counter reaches the limit 3. -/
theorem witness_TickCounts :
    (at0 (quietLane 2)).resetLow = false ∧ ((after .tick (at0 (quietLane 2))).lane 0).intake.silent = true ∧
    (after .tick (at0 (quietLane 2))).time.counter = 1 := by decide +kernel

/-- The test limit is 3: a count of 2 is due on the next tick. -/
theorem quietLane_due : ExpiryDue ((tickedState (at0 (quietLane 2))).lane 0) := by
  refine ⟨?_, ?_, ?_, ?_⟩ <;> decide +kernel

/-- Each lock state; the tick that brings the count to the limit 3; the tick before it; an OFF lane. -/
theorem witness_SilenceExpires :
    (at0 (quietLane 2)).resetLow = false ∧ (quietLane 2).engine.lock = .search ∧
    (syncLane .check 0 []).engine.lock = .check ∧ (frameLane .coast 9 [] none).engine.lock = .coast ∧
    (frameLane .coast 9 [] none).engine.frame = some frame ∧
    ExpiryDue ((tickedState (at0 (quietLane 2))).lane 0) ∧
    (∀ j, j ≠ 0 → ¬ExpiryDue ((tickedState (at0 (quietLane 2))).lane j)) ∧
    ¬ExpiryDue ((tickedState (at0 (quietLane 1))).lane 0) := by
  refine ⟨rfl, rfl, rfl, rfl, rfl, quietLane_due, ?_, ?_⟩
  · unfold ExpiryDue; decide +kernel
  · unfold ExpiryDue; decide +kernel

/-- R4, R44: an expiry comes with the tick that reaches the limit, not one tick sooner, and never with limit 0. -/
theorem test_expiry_needs_limit :
    ((after (.silenceExpiry 0) (at0 (quietLane 2))).lane 0).intake.silent = true ∧
    ((after (.silenceExpiry 0) (at0 (quietLane 1))).lane 0).intake.silent = false ∧
    ((after (.silenceExpiry 0) (at0 { quietLane 2 with
      intake := { (quietLane 2).intake with profile := Profile.reset } })).lane 0).intake.silent = false := by
  decide +kernel

/-- R102, R143: an expiry is a tick of TCK, so the time counter advances with it. -/
theorem test_expiry_is_a_tick :
    (after (.silenceExpiry 0) (at0 (quietLane 2))).time.counter = 1 ∧
    (after (.silenceExpiry 0) (at0 (quietLane 1))).time.counter = 0 := by decide +kernel

theorem witness_CopyStepCopiesRecord :
    let s : State := { up with tables.copying := true, tables.copyIdx := 258, tables.ram := [(0, 7)] }
    s.resetLow = false ∧ s.tables.ram.wf = true ∧ s.tables.copying = true ∧ s.tables.copyIdx ≠ 259 ∧
    ({ s with tables.copyIdx := 259 } : State).tables.copyIdx = 259 ∧ up.tables.copying = false := by decide

/-! ### Witnesses: commands -/

/-- The two edge lanes, by CARG 0 and CARG 3; the test profile meets the conditions and the reset profile does not. -/
theorem witness_LaneStartCommand :
    (at0 offLane).resetLow = false ∧ (at0 offLane).carg.toNat = (0 : LaneId).val ∧
    ({ up with carg := 3 } : State).carg.toNat = (3 : LaneId).val ∧ ((at0 offLane).lane 0).engine.lock = .off ∧
    MeetsStartConditions profile ∧ ¬MeetsStartConditions Profile.reset ∧
    (syncLane .search 0 []).engine.lock ≠ .off := by
  refine ⟨rfl, rfl, rfl, by decide, ?_, ?_, by decide⟩
  · exact ⟨by decide, by decide, by decide, ⟨0, by decide, by decide⟩, by decide, by decide, by decide, by decide,
      by decide, by decide⟩
  · rintro ⟨-, -, -, ⟨k, -, h⟩, -⟩
    have : Profile.reset.mask = 0#32 := by decide
    simp [this] at h

theorem witness_LaneStopCommand :
    (at0 offLane).resetLow = false ∧ (at0 offLane).carg.toNat = (0 : LaneId).val ∧
    ((at0 offLane).lane 0).engine.lock = .off ∧ (syncLane .check 3 []).engine.lock = .check ∧
    (syncLane .check 3 []).engine.frame = none ∧ (frameLane .lock 9 [] none).engine.lock = .lock ∧
    (frameLane .lock 9 [] none).engine.frame = some frame := by decide

theorem witness_LaneResyncCommand :
    (at0 (frameLane .lock 9 [] (some 1))).resetLow = false ∧
    (at0 (frameLane .lock 9 [] (some 1))).carg.toNat = (0 : LaneId).val ∧
    ((at0 offLane).lane 0).engine.lock = .off ∧ (syncLane .search 3 []).engine.lock = .search ∧
    (syncLane .check 3 []).engine.lock = .check ∧ (frameLane .lock 9 [] (some 1)).engine.lock = .lock ∧
    (frameLane .lock 9 [] (some 1)).engine.frame = some frame := by decide

/-- A swap with no lane to wait for, with a locked lane to wait for, and a busy table store. -/
theorem witness_TableSwapCommand :
    up.resetLow = false ∧ up.tables.swapping = false ∧ up.tables.copying = false ∧
    (¬∃ i : LaneId, (up.lane i).engine.lock ≠ .off ∧ (up.lane i).engine.lock ≠ .search ∧
      (up.lane i).bankInUse ≠ up.tables.active.other) ∧
    (∃ i : LaneId, ((at0 (frameLane .lock 9 [] none)).lane i).engine.lock ≠ .off ∧
      ((at0 (frameLane .lock 9 [] none)).lane i).engine.lock ≠ .search ∧
      ((at0 (frameLane .lock 9 [] none)).lane i).bankInUse ≠ up.tables.active.other) ∧
    ({ up with tables.copying := true } : State).tables.copying = true := by decide

theorem witness_TableCopyCommand :
    up.resetLow = false ∧ up.tables.swapping = false ∧ up.tables.copying = false ∧
    ({ up with tables.swapping := true } : State).tables.swapping = true := by decide

theorem witness_QueueCommands :
    ({ up with carg := 7 } : State).resetLow = false ∧ ({ up with carg := 7 } : State).carg.toNat = (7 : QueueId).val ∧
    ((withQ (openQ [word]) 1023).queue 0).state = .opened ∧
    ((withQ { openQ [] with state := .held } 5).queue 0).state = .held ∧ (up.queue 7).state = .disabled := by decide

theorem witness_CommandsRefused :
    up.resetLow = false ∧ 4 ≤ ({ up with carg := 4 } : State).carg.toNat ∧
    8 ≤ ({ up with carg := 8 } : State).carg.toNat ∧
    (0x41 : Byte) ∉ ([0x01, 0x02, 0x03, 0x10, 0x11, 0x20, 0x21, 0x22, 0x30, 0x31, 0x40, 0x7F] : List Byte) := by decide

theorem witness_RecordsFlushCommand :
    ({ up with records.list := [plainRecord], records.gap := true } : State).resetLow = false := by decide

theorem witness_SoftResetCommand :
    (at0 (frameLane .coast 9 [] none)).resetLow = false ∧
    (∀ q : QueueId, 1 ≤ ((at0 (frameLane .coast 9 [] none)).queue q).threshold) := by decide

/-! ### Witnesses: the profile port and the lane readouts -/

theorem witness_ProfilePortAndReadouts :
    up.resetLow = false ∧ (3 : Byte).toNat = (3 : LaneId).val ∧ 4 ≤ (4 : Byte).toNat ∧
    (23 : Byte).toNat = (23 : Fin 24).val ∧ 24 ≤ (24 : Byte).toNat := by decide

/-- Byte 14 with record mode 3 and with record mode 2; the lowest, a middle and the highest byte of the pattern. -/
theorem witness_PdataWriteOffLane :
    let s (k : Fin 24) : State := { at0 offLane with pidx := k }
    (s 14).resetLow = false ∧ ((s 14).lane (s 14).lsel).engine.lock = .off ∧ (0x18 : Byte).extractLsb' 3 2 = 3 ∧
    (0xF7 : Byte).extractLsb' 3 2 ≠ 3 ∧ (∃ f ∈ multiByteFields, f.1 ≤ (s 4).pidx.val ∧ (s 4).pidx.val < f.2) ∧
    (∃ f ∈ multiByteFields, f.1 ≤ (s 6).pidx.val ∧ (s 6).pidx.val < f.2) ∧
    (¬∃ f ∈ multiByteFields, f.1 ≤ (s 7).pidx.val ∧ (s 7).pidx.val < f.2) := by decide

/-- Each live byte at the edge of its range: 77h and 78h at byte 12, F1h and F0h at byte 13, and the record modes. -/
theorem witness_PdataWriteRunningLane :
    let s (k : Fin 24) : State := { at0 (syncLane .search 0 []) with pidx := k }
    (s 12).resetLow = false ∧ ((s 12).lane (s 12).lsel).engine.lock ≠ .off ∧
    (s 11).pidx.val ≤ 11 ∧ 16 ≤ (s 16).pidx.val ∧ ¬(s 12).pidx.val ≤ 11 ∧ ¬16 ≤ (s 15).pidx.val ∧
    ¬7 < ((0x77 : Byte).extractLsb' 0 4).toNat ∧ ¬7 < ((0x77 : Byte).extractLsb' 4 4).toNat ∧
    7 < ((0x78 : Byte).extractLsb' 0 4).toNat ∧ (0xF1 : Byte).extractLsb' 0 4 ≠ 0 ∧
    (0xF0 : Byte).extractLsb' 0 4 = 0 ∧ (0x10 : Byte).extractLsb' 0 2 = profile.bytes[14].extractLsb' 0 2 ∧
    (0x11 : Byte).extractLsb' 0 2 ≠ profile.bytes[14].extractLsb' 0 2 ∧ (0x18 : Byte).extractLsb' 3 2 = 3 := by decide

/-! ### Witnesses: the table port -/

/-- The cursor values 259 and 260. -/
theorem witness_TableCursors :
    let s : State := { up with tables.wLow := 3, tables.rLow := 4 }
    s.resetLow = false ∧ ((1 : Byte).toNat % 2) * 256 + s.tables.wLow.toNat = (259 : Fin 260).val ∧
    260 ≤ ((1 : Byte).toNat % 2) * 256 + s.tables.rLow.toNat := by decide

/-- Bytes 0, 4 and 5 of a record; indices 255 and 256; a free and a busy table store. -/
theorem witness_TableCommit :
    let s (k : Fin 6) (x : Fin 260) : State := { up with tables.wByte := k, tables.wIdx := x }
    (s 0 0).resetLow = false ∧ (s 0 0).tables.ram.wf = true ∧ (s 0 0).tables.wByte = 0 ∧ (s 4 0).tables.wByte = 4 ∧
    (s 5 255).tables.wByte = 5 ∧ (s 5 255).tables.wIdx.val ≤ 255 ∧ 256 ≤ (s 5 256).tables.wIdx.val ∧
    (s 5 255).tables.swapping = false ∧ (s 5 255).tables.copying = false ∧
    ({ s 5 255 with tables.swapping := true } : State).tables.swapping = true := by decide

theorem witness_TablePortReads :
    let s (k : Fin 6) : State := { up with tables.rByte := k }
    up.resetLow = false ∧ 2 ≤ (2 : Byte).toNat ∧ (s 0).tables.rByte = 0 ∧ (s 1).tables.rByte = 1 ∧
    (s 4).tables.rByte = 4 ∧ (s 5).tables.rByte = 5 := by decide

/-! ### Witnesses: the queues -/

/-- Quotas 1024 and 1025, thresholds 0, 1, 1024 and 1025, and the policy of an OPEN queue. -/
theorem witness_QueueSettingsWritten :
    let s : State := { up with queues.quotaLow := 0, queues.thrLow := 1 }
    let o := withQ (openQ []) 1024
    s.resetLow = false ∧ (7 : Byte).toNat = (7 : QueueId).val ∧ 8 ≤ (8 : Byte).toNat ∧
    (s.queue s.queues.qsel).state = .disabled ∧
    ((0x0C : Byte).toNat % 8) * 256 + s.queues.quotaLow.toNat = 1024 ∧
    ((4 : Byte).toNat % 8) * 256 + s.queues.thrLow.toNat = 1025 ∧
    ((0 : Byte).toNat % 8) * 256 + s.queues.thrLow.toNat = 1 ∧
    ((0 : Byte).toNat % 8) * 256 + up.queues.thrLow.toNat = 0 ∧
    ((4 : Byte).toNat % 8) * 256 + up.queues.thrLow.toNat = 1024 ∧
    (o.queue o.queues.qsel).state ≠ .disabled ∧ (0x08 : Byte).getLsbD 2 = false ∧
    (o.queue o.queues.qsel).policy = .dropNew ∧ (0x04 : Byte).getLsbD 2 = true := by decide

theorem witness_QueueCountsRead : (withQ (openQ [word]) 1023).resetLow = false := by decide

theorem witness_HostPops :
    let s := withQ (openQ [word]) 1023
    s.resetLow = false ∧ (s.queue s.queues.qsel).state ≠ .disabled ∧ (s.queue s.queues.qsel).entries = word :: [] ∧
    (up.queue up.queues.qsel).state = .disabled ∧ (3 : Fin 4) ≠ 0 := by decide

theorem witness_DmaBindingAndRequest :
    up.resetLow = false ∧ (7 : Byte).toNat = (7 : QueueId).val ∧ 8 ≤ (8 : Byte).toNat ∧ (8 : Byte) ≠ 0x80 ∧
    8 ≤ (0x81 : Byte).toNat ∧ (0x81 : Byte) ≠ 0x80 := by decide

theorem witness_DmaPortReads :
    let s := (withQ (openQ [word]) 1023).setPort 1 { hold := #v[1, 2, 3, 4], idx := 0, bind := some 0 }
    s.resetLow = false ∧ (s.port 1).bind = some 0 ∧ (s.queue 0).state ≠ .disabled ∧
    (s.queue 0).entries = word :: [] ∧ (s.port 0).bind = none ∧ (3 : Fin 4) ≠ 0 := by decide

/-! ### Witnesses: records, time, attentions, bus -/

theorem witness_FrameRecordPopAndLayout :
    let s : State := { up with records.list := [plainRecord] }
    s.resetLow = false ∧ s.records.list = plainRecord :: [] ∧ up.records.list = [] ∧ (15 : Fin 16) ≠ 0 := by decide

theorem witness_TimeLatchLoadAndReads :
    up.resetLow = false ∧ up.time.waiting = false ∧ ({ up with time.waiting := true } : State).time.waiting = true ∧
    (5 : Fin 6) ≠ 0 := by decide

theorem witness_AttentionReads :
    let r : AttnRecord := { cause := .queueLoss, source := 4, count := 2, first := 9 }
    let s : State := { up with attn.list := [r] }
    s.resetLow = false ∧ s.attn.list = r :: [] ∧ up.attn.list = [] ∧ (4 : Fin 5) ≠ 0 := by decide

theorem witness_RegisterWrites : up.resetLow = false ∧ (0x69 : Addr).toNat = 0x69 ∧ 0x64 ≤ (0x69 : Addr).toNat := by
  decide

theorem witness_PlainRegisterReads : (at0 (frameLane .lock 9 [] none)).resetLow = false ∧ 0x69 ≤ (0x7F : Addr).toNat := by
  decide

/-! ### Witnesses: what every step keeps -/

/-- A lane in LOCK whose evaluation bit waits in the queue. -/
def lockedState : State :=
  { at0 (frameLane .lock 6 (bits 9 0x52) none) with pending := [.takeBit 0 true] }

theorem locked_frame : FrameOk (frameLane .lock 6 (bits 9 0x52) none) := by
  constructor <;> first | decide | (constructor <;> decide)

theorem locked_frames : FramesOk lockedState :=
  frames_at0 (l := frameLane .lock 6 (bits 9 0x52) none) locked_frame

theorem witness_FramesStaySound : FramesOk lockedState ∧ ∃ t, step lockedState = .next t := ⟨locked_frames, _, rfl⟩

theorem witness_RunningLanesStaySound : LanesStarted lockedState ∧ ∃ t, step lockedState = .next t :=
  ⟨started_at0 (l := frameLane .lock 6 (bits 9 0x52) none) (by constructor <;> decide), _, rfl⟩

theorem witness_CapacitiesHold : CapacitiesOk lockedState ∧ ∃ t, step lockedState = .next t :=
  ⟨⟨by decide, by decide, by decide, by decide⟩, _, rfl⟩

/-- A queue at its quota, about to be popped. -/
theorem witness_PoolIsConserved :
    PoolOk { withQ (openQ [word, word]) 1022 with pending := [.qdataRead 0] } ∧
    ∃ t, step { withQ (openQ [word, word]) 1022 with pending := [.qdataRead 0] } = .next t :=
  ⟨⟨by decide, by decide, by decide, by decide, by decide⟩, _, rfl⟩

/-- A swap that waits for lane 0 alone, whose evaluation bit comes next. -/
def swapState : State :=
  { at0 { frameLane .lock 6 (bits 9 0x52) none with bankInUse := .bank1 } with
    tables.swapping := true, pending := [.takeBit 0 true] }

theorem swap_sound : SwapOk swapState := ⟨by decide, by decide, by decide, by decide⟩

theorem witness_SwapStaysSound : SwapOk swapState ∧ ∃ t, step swapState = .next t := ⟨swap_sound, _, rfl⟩

/-- One listed pair, about to be posted again. -/
theorem witness_AttentionListStaysSound :
    let r : AttnRecord := { cause := .configRefused, source := 0xFF, count := 255, first := 9 }
    let s : State := { up with attn.list := [r], attn.masks := 0x1FFFF, pending := [.lselWrite 9] }
    AttentionOk s ∧ ∃ t, step s = .next t :=
  ⟨⟨by decide, by decide, by decide⟩, _, rfl⟩

/-- A commit while lane 0 has a frame open. -/
theorem witness_FrameBankStaysStable :
    let s : State := { lockedState with tables.wByte := 5 }
    FramesOk s ∧ SwapOk s ∧ Instr.twdataWrite 7 ≠ .hardwareReset ∧ (∃ t, exec (.twdataWrite 7) s = .next t) ∧
    (s.lane 0).selector.isOpen = true ∧ 259 < 260 :=
  ⟨frames_at0 (l := frameLane .lock 6 (bits 9 0x52) none) locked_frame,
    ⟨by decide, by decide, by decide, by decide⟩, by decide, ⟨_, rfl⟩, by decide, by decide⟩

/-- A PDATA write that changes W of lane 0. -/
theorem witness_ProfilesChangeByHostOnly :
    ∃ t, exec (.pdataWrite 9) (at0 offLane) = .next t ∧
      (t.lane 0).intake.profile ≠ ((at0 offLane).lane 0).intake.profile := ⟨_, rfl, by decide⟩

end Sys2Proof.Tests
end

namespace Sys2Proof

open Sys2Proof.Machine

/-! ### Happenings that leave the lanes, the banks and the frame records alone -/

/-- `t` has the lanes, the bytes of both banks and the frame records of `s`. -/
structure SameStores (s t : State) : Prop where
  lanes : t.lanes = s.lanes
  ram : t.tables.ram = s.tables.ram
  records : t.records.list = s.records.list

namespace SameStores

variable {s t u : State}

theorem refl (s : State) : SameStores s s := ⟨rfl, rfl, rfl⟩

theorem trans (h : SameStores s t) (k : SameStores t u) : SameStores s u :=
  ⟨k.lanes.trans h.lanes, k.ram.trans h.ram, k.records.trans h.records⟩

theorem lane (h : SameStores s t) (i : LaneId) : t.lane i = s.lane i := by
  simp [State.lane, h.lanes]

theorem post (s : State) (c : Cause) (src : Byte) : SameStores s (s.post c src) := by
  constructor <;> simp

theorem thenPost (h : SameStores s t) (c : Cause) (src : Byte) : SameStores s (t.post c src) := h.trans (post t c src)

theorem refuseConfig (s : State) : SameStores s s.refuseConfig := post s _ _

theorem offerWord (s : State) (q : QueueId) (r : WordRecord) : SameStores s (s.offerWord q r).2 := by
  rcases s.offerWord_cases q r with ⟨-, e⟩ | ⟨-, e⟩ | ⟨-, -, -, e⟩ | ⟨-, -, ⟨_, _, -, -, e⟩ | ⟨-, e⟩⟩ <;> rw [e]
  · exact refl s
  · rw [State.loseWord_eq]; exact ⟨rfl, rfl, rfl⟩
  · rw [State.appendWord_eq]; exact ⟨rfl, rfl, rfl⟩
  · rw [State.evictWord, State.loseWord_eq]; exact ⟨rfl, rfl, rfl⟩
  · rw [State.loseWord_eq]; exact ⟨rfl, rfl, rfl⟩

theorem popQueue (s : State) (q : QueueId) : SameStores s (s.popQueue q).2 := by
  rcases s.popQueue_cases q with ⟨-, e⟩ | ⟨_, _, -, -, e⟩ <;> rw [e] <;> exact ⟨rfl, rfl, rfl⟩

theorem popPort (s : State) (n : PortId) : SameStores s (s.popPort n) := by
  unfold State.popPort
  split
  · exact ⟨rfl, rfl, rfl⟩
  · exact trans (popQueue s _) ⟨rfl, rfl, rfl⟩

/-! #### Writes -/

theorem writeLsel (v : Byte) (s : State) : SameStores s (writeLsel v s) := by
  unfold Machine.writeLsel
  split
  · exact ⟨rfl, rfl, rfl⟩
  · exact refuseConfig s

theorem writePidx (v : Byte) (s : State) : SameStores s (writePidx v s) := by
  unfold Machine.writePidx
  split
  · exact ⟨rfl, rfl, rfl⟩
  · exact refuseConfig s

theorem writeTwidx (h : Half) (v : Byte) (s : State) : SameStores s (writeTwidx h v s) := by
  cases h
  · exact ⟨rfl, rfl, rfl⟩
  · simp only [Machine.writeTwidx]
    split
    · exact ⟨rfl, rfl, rfl⟩
    · exact refuseConfig s

theorem writeTridx (h : Half) (v : Byte) (s : State) : SameStores s (writeTridx h v s) := by
  cases h
  · exact ⟨rfl, rfl, rfl⟩
  · simp only [Machine.writeTridx]
    split
    · exact ⟨rfl, rfl, rfl⟩
    · exact refuseConfig s

theorem writeTrbank (v : Byte) (s : State) : SameStores s (writeTrbank v s) := by
  unfold Machine.writeTrbank
  split
  · exact ⟨rfl, rfl, rfl⟩
  · split
    · exact ⟨rfl, rfl, rfl⟩
    · exact refuseConfig s

theorem writeQsel (v : Byte) (s : State) : SameStores s (writeQsel v s) := by
  unfold Machine.writeQsel
  split
  · exact ⟨rfl, rfl, rfl⟩
  · exact refuseConfig s

theorem writeQmode (v : Byte) (s : State) : SameStores s (writeQmode v s) := by
  unfold Machine.writeQmode
  split
  · exact ⟨rfl, rfl, rfl⟩
  · exact refuseConfig s

theorem writeQquota (h : Half) (v : Byte) (s : State) : SameStores s (writeQquota h v s) := by
  cases h
  · exact ⟨rfl, rfl, rfl⟩
  · simp only [Machine.writeQquota]
    split
    · exact ⟨rfl, rfl, rfl⟩
    · exact refuseConfig s

theorem writeQthr (h : Half) (v : Byte) (s : State) : SameStores s (writeQthr h v s) := by
  cases h
  · exact ⟨rfl, rfl, rfl⟩
  · simp only [Machine.writeQthr]
    split
    · exact ⟨rfl, rfl, rfl⟩
    · exact refuseConfig s

theorem writeDbind (n : PortId) (v : Byte) (s : State) : SameStores s (writeDbind n v s) := by
  unfold Machine.writeDbind
  split
  · exact ⟨rfl, rfl, rfl⟩
  · split
    · exact ⟨rfl, rfl, rfl⟩
    · exact refuseConfig s

/-! #### Reads -/

theorem readTwidx (h : Half) (s : State) : SameStores s (readTwidx h s).2 := by
  cases h <;> exact ⟨rfl, rfl, rfl⟩

theorem readTridx (h : Half) (s : State) : SameStores s (readTridx h s).2 := by
  cases h <;> exact ⟨rfl, rfl, rfl⟩

theorem readTrdata (s : State) : SameStores s (readTrdata s).2 := by
  unfold Machine.readTrdata
  split
  · exact ⟨rfl, rfl, rfl⟩
  · split <;> exact ⟨rfl, rfl, rfl⟩

theorem readLseq (h : Half) (s : State) : SameStores s (readLseq h s).2 := by
  cases h <;> exact ⟨rfl, rfl, rfl⟩

theorem readQdepth (h : Half) (s : State) : SameStores s (readQdepth h s).2 := by
  cases h <;> exact ⟨rfl, rfl, rfl⟩

theorem readQlost (h : Half) (s : State) : SameStores s (readQlost h s).2 := by
  cases h <;> exact ⟨rfl, rfl, rfl⟩

theorem readPoolfree (h : Half) (s : State) : SameStores s (readPoolfree h s).2 := by
  cases h <;> exact ⟨rfl, rfl, rfl⟩

theorem readQdata (k : Fin 4) (s : State) : SameStores s (readQdata k s).2 := by
  unfold Machine.readQdata
  split
  · exact trans (popQueue s _) ⟨rfl, rfl, rfl⟩
  · exact refl s

theorem readDdata (n : PortId) (k : Fin 4) (s : State) : SameStores s (readDdata n k s).2 := by
  unfold Machine.readDdata
  dsimp only
  split
  · exact trans (popPort s n) ⟨rfl, rfl, rfl⟩
  · exact ⟨rfl, rfl, rfl⟩

theorem readAck (n : PortId) (s : State) : SameStores s (readAck n s).2 := by
  unfold Machine.readAck
  dsimp only
  split
  · exact trans (popPort s n) ⟨rfl, rfl, rfl⟩
  · exact ⟨rfl, rfl, rfl⟩

theorem readTime (k : Fin 6) (s : State) : SameStores s (readTime k s).2 := by
  unfold Machine.readTime
  split
  · split <;> exact ⟨rfl, rfl, rfl⟩
  · exact refl s

theorem readAdata (k : Fin 5) (s : State) : SameStores s (readAdata k s).2 := by
  unfold Machine.readAdata
  split
  · split <;> exact ⟨rfl, rfl, rfl⟩
  · exact refl s

/-! #### Commands -/

theorem copyTables (s : State) : SameStores s (copyTables s).2 := by
  unfold Machine.copyTables
  split <;> exact ⟨rfl, rfl, rfl⟩

theorem holdQueue (q : QueueId) (s : State) : SameStores s (holdQueue q s).2 := by
  unfold Machine.holdQueue
  split <;> exact ⟨rfl, rfl, rfl⟩

end SameStores

/-! ### Happenings that reach a bank or the frame records, and no lane -/

theorem lanes_copyOne (s : State) : (copyOne s).lanes = s.lanes := by
  unfold copyOne
  dsimp only
  split
  · split
    · exact State.post_lanes _ _ _
    · rfl
  · rfl

theorem lanes_readRdata (k : Fin 16) (s : State) : (readRdata k s).2.lanes = s.lanes := by
  unfold readRdata
  split
  · split <;> rfl
  · rfl

theorem lanes_writeTwdata (v : Byte) (s : State) : (writeTwdata v s).lanes = s.lanes := by
  unfold writeTwdata State.commitRecord
  dsimp only
  split
  · split
    · exact State.post_lanes _ _ _
    · rfl
  · rfl

/-! ### What every command keeps -/

/-- `P` speaks of the lanes, of the banks' bytes and of the frame records alone, and is kept by the operations that reach
them, but for PDATA writes and hardware reset. -/
structure KeptByOperations (P : State → Prop) : Prop where
  elsewhere : ∀ s t, SameStores s t → P s → P t
  takeBit : ∀ i b s, P s → P (takeBit i b s)
  countTick : ∀ s, P s → P s.countTick
  expireSilence : ∀ s i, P s → P (s.expireSilence i)
  startLane : ∀ i s, P s → P (startLane i s).2
  stopLane : ∀ i s, P s → P (stopLane i s).2
  resyncLane : ∀ i s, P s → P (resyncLane i s).2
  swapTables : ∀ s, P s → P (swapTables s).2
  copyOne : ∀ s, P s → P (copyOne s)
  flushRecords : ∀ s, P s → P (flushRecords s).2
  softResetAll : ∀ s, P s → P (softResetAll s).2
  readLslip : ∀ s, P s → P (readLslip s).2
  readRdata : ∀ k s, P s → P (readRdata k s).2
  writeTwdata : ∀ v s, P s → P (writeTwdata v s)

/-- The command writes PDATA, by its row or by its address. -/
def writesPdata (c : Instr) : Prop := ∃ v, c = .pdataWrite v ∨ c = .registerWrite .write 0x0E v

theorem decodeAddr_pdata (a : Addr) (h : decodeAddr a = .pdata) : a = 0x0E := by
  revert a
  decide

namespace KeptByOperations

variable {P : State → Prop} (hP : KeptByOperations P)
include hP

theorem takeTick (s : State) (hs : P s) : P (takeTick s) :=
  takeTick_keeps s P hP.countTick (fun _ _ => hP.elsewhere _ _ ⟨rfl, rfl, rfl⟩) hP.expireSilence hs

theorem silenceEvent (i : LaneId) (s : State) (hs : P s) : P (silenceEvent i s) := by
  rcases silenceEvent_cases s i with ⟨-, e⟩ | ⟨-, e⟩ <;> rw [e]
  · exact hP.takeTick s hs
  · exact hs

theorem command (code : Byte) (owner : State → CmdStatus × State) (ho : ∀ s, P s → P (owner s).2) (s : State)
    (hs : P s) : P (command code owner s) :=
  command_keeps P (fun _ _ _ => hP.elsewhere _ _ ⟨rfl, rfl, rfl⟩) code owner ho s hs

theorem laneCommand (code : Byte) (f : LaneId → State → CmdStatus × State) (hf : ∀ i s, P s → P (f i s).2)
    (s : State) (hs : P s) : P (Machine.command code (withLane f) s) :=
  hP.command code _ (withLane_keeps P f hf) s hs

theorem queueCommand (code : Byte) (f : QueueId → State → CmdStatus × State) (hf : ∀ q s, SameStores s (f q s).2)
    (s : State) (hs : P s) : P (Machine.command code (withQueue f) s) :=
  hP.command code _ (withQueue_keeps P f fun q s => hP.elsewhere _ _ (hf q s)) s hs

theorem plainCommand (code : Byte) (owner : State → CmdStatus × State) (ho : ∀ s, SameStores s (owner s).2)
    (s : State) (hs : P s) : P (Machine.command code owner s) :=
  hP.command code owner (fun s => hP.elsewhere _ _ (ho s)) s hs

theorem issueCommand (code : Byte) (s : State) (hs : P s) : P (issueCommand code s) := by
  unfold Machine.issueCommand
  split
  · exact hP.laneCommand _ _ hP.startLane s hs
  · exact hP.laneCommand _ _ hP.stopLane s hs
  · exact hP.laneCommand _ _ hP.resyncLane s hs
  · exact hP.command _ _ hP.swapTables s hs
  · exact hP.plainCommand _ _ SameStores.copyTables s hs
  · exact hP.queueCommand _ openQueue (fun _ _ => ⟨rfl, rfl, rfl⟩) s hs
  · exact hP.queueCommand _ _ SameStores.holdQueue s hs
  · exact hP.queueCommand _ disableQueue (fun _ _ => ⟨rfl, rfl, rfl⟩) s hs
  · exact hP.plainCommand _ latchTime (fun _ => ⟨rfl, rfl, rfl⟩) s hs
  · exact hP.plainCommand _ loadTime (fun _ => ⟨rfl, rfl, rfl⟩) s hs
  · exact hP.command _ _ hP.flushRecords s hs
  · exact hP.command _ _ hP.softResetAll s hs
  · exact hP.plainCommand code _ SameStores.refl s hs

theorem readReg (r : Reg) (s : State) (hs : P s) : P (readReg r s).2 := by
  cases r with
  | lslip => exact hP.readLslip s hs
  | rdata k => exact hP.readRdata k s hs
  | lseq h => exact hP.elsewhere _ _ (SameStores.readLseq h s) hs
  | twidx h => exact hP.elsewhere _ _ (SameStores.readTwidx h s) hs
  | tridx h => exact hP.elsewhere _ _ (SameStores.readTridx h s) hs
  | trdata => exact hP.elsewhere _ _ (SameStores.readTrdata s) hs
  | qdepth h => exact hP.elsewhere _ _ (SameStores.readQdepth h s) hs
  | qlost h => exact hP.elsewhere _ _ (SameStores.readQlost h s) hs
  | poolfree h => exact hP.elsewhere _ _ (SameStores.readPoolfree h s) hs
  | qdata k => exact hP.elsewhere _ _ (SameStores.readQdata k s) hs
  | ddata n k => exact hP.elsewhere _ _ (SameStores.readDdata n k s) hs
  | timeByte k => exact hP.elsewhere _ _ (SameStores.readTime k s) hs
  | adata k => exact hP.elsewhere _ _ (SameStores.readAdata k s) hs
  | pdata => exact hP.elsewhere s _ ⟨rfl, rfl, rfl⟩ hs
  | rloss => exact hP.elsewhere s _ ⟨rfl, rfl, rfl⟩ hs
  | _ => exact hs

theorem writeReg (r : Reg) (v : Byte) (hw : r = .pdata → ∀ v s, P s → P (writePdata v s)) (s : State) (hs : P s) :
    P (writeReg r v s) := by
  cases r with
  | cmd => exact hP.issueCommand v s hs
  | carg => exact hP.elsewhere s _ ⟨rfl, rfl, rfl⟩ hs
  | lsel => exact hP.elsewhere _ _ (SameStores.writeLsel v s) hs
  | pidx => exact hP.elsewhere _ _ (SameStores.writePidx v s) hs
  | pdata => exact hw rfl v s hs
  | twidx h => exact hP.elsewhere _ _ (SameStores.writeTwidx h v s) hs
  | twdata => exact hP.writeTwdata v s hs
  | tridx h => exact hP.elsewhere _ _ (SameStores.writeTridx h v s) hs
  | trbank => exact hP.elsewhere _ _ (SameStores.writeTrbank v s) hs
  | qsel => exact hP.elsewhere _ _ (SameStores.writeQsel v s) hs
  | qmode => exact hP.elsewhere _ _ (SameStores.writeQmode v s) hs
  | qquota h => exact hP.elsewhere _ _ (SameStores.writeQquota h v s) hs
  | qthr h => exact hP.elsewhere _ _ (SameStores.writeQthr h v s) hs
  | dbind n => exact hP.elsewhere _ _ (SameStores.writeDbind n v s) hs
  | timeByte k => exact hP.elsewhere s _ ⟨rfl, rfl, rfl⟩ hs
  | amask k => exact hP.elsewhere s _ ⟨rfl, rfl, rfl⟩ hs
  | _ => exact hs

/-- A happening that keeps `P` keeps it with the data lines it drives. -/
theorem act {f : State → State} (hf : ∀ s, P s → P (f s)) {s t : State} (hs : P s) (h : act f s = .next t) : P t :=
  act_keeps P (fun _ _ => hP.elsewhere _ _ ⟨rfl, rfl, rfl⟩) f hf s t hs h

theorem answer {f : State → Byte × State} (hf : ∀ s, P s → P (f s).2) {s t : State} (hs : P s)
    (h : answer f s = .next t) : P t :=
  answer_keeps P (fun _ _ => hP.elsewhere _ _ ⟨rfl, rfl, rfl⟩) f hf s t hs h

theorem ackAccess (strobe : AckStrobe) {s t : State} (hs : P s) (h : ackAccess strobe s = .next t) : P t := by
  cases strobe with
  | read n => exact hP.answer (fun s => hP.elsewhere _ _ (SameStores.readAck n s)) hs h
  | readBoth => exact hP.answer (f := fun t => (0, t)) (fun _ hs => hs) hs h
  | write => exact hP.act (f := id) (fun _ hs => hs) hs h
  | readAndWrite => exact hP.act (f := id) (fun _ hs => hs) hs h
  | noStrobe => exact hP.act (f := id) (fun _ hs => hs) hs h

theorem hostAccess (strobe : HostStrobe) (a : Addr) (v : Byte)
    (hw : strobe = .write → decodeAddr a = .pdata → ∀ v s, P s → P (writePdata v s)) {s t : State} (hs : P s)
    (h : hostAccess strobe a v s = .next t) : P t := by
  cases strobe with
  | write => exact hP.act (hP.writeReg _ v (hw rfl)) hs h
  | read => exact hP.answer (hP.readReg _) hs h
  | readAndWrite => exact hP.act (f := id) (fun _ hs => hs) hs h
  | unselected => exact hP.act (f := id) (fun _ hs => hs) hs h

/-- Every command keeps `P`, where a PDATA write and hardware reset keep it too. -/
theorem exec (c : Instr) (hw : writesPdata c → ∀ v s, P s → P (writePdata v s))
    (hr : c = .hardwareReset → ∀ s, P s → P (resetAsserted s)) {s t : State} (hs : P s)
    (h : exec c s = .next t) : P t := by
  have same : ∀ f : State → State, (∀ s, SameStores s (f s)) → Machine.act f s = .next t → P t :=
    fun f hf => hP.act (fun s => hP.elsewhere _ _ (hf s)) hs
  have read : ∀ f : State → Byte × State, (∀ s, SameStores s (f s).2) → Machine.answer f s = .next t → P t :=
    fun f hf => hP.answer (fun s => hP.elsewhere _ _ (hf s)) hs
  have row : ∀ code, Machine.act (Machine.issueCommand code) s = .next t → P t :=
    fun code => hP.act (hP.issueCommand code) hs
  cases c with
  | takeBit i b => exact hP.act (hP.takeBit i b) hs h
  | tick => exact hP.act hP.takeTick hs h
  | silenceExpiry i => exact hP.act (hP.silenceEvent i) hs h
  | copyStep => exact hP.act hP.copyOne hs h
  | laneStart => exact row 0x01 h
  | laneStop => exact row 0x02 h
  | laneResync => exact row 0x03 h
  | tableSwap => exact row 0x10 h
  | tableCopy => exact row 0x11 h
  | queueOpen => exact row 0x20 h
  | queueHold => exact row 0x21 h
  | queueDisable => exact row 0x22 h
  | timeLatch => exact row 0x30 h
  | timeLoad => exact row 0x31 h
  | recordsFlush => exact row 0x40 h
  | softReset => exact row 0x7F h
  | commandBadCode code => exact row code h
  | hardwareReset => cases h; exact hr rfl s hs
  | resetRelease => cases h; exact hP.elsewhere s _ ⟨rfl, rfl, rfl⟩ hs
  | lselWrite v => exact same _ (SameStores.writeLsel v) h
  | pidxWrite v => exact same _ (SameStores.writePidx v) h
  | pdataRead => exact read readPdata (fun _ => ⟨rfl, rfl, rfl⟩) h
  | pdataWrite v => exact hP.act (hw ⟨v, .inl rfl⟩ v) hs h
  | lslipRead => exact hP.answer hP.readLslip hs h
  | lseqRead half => exact read _ (SameStores.readLseq half) h
  | twidxWrite half v => exact same _ (SameStores.writeTwidx half v) h
  | twidxRead half => exact read _ (SameStores.readTwidx half) h
  | twdataWrite v => exact hP.act (hP.writeTwdata v) hs h
  | tridxWrite half v => exact same _ (SameStores.writeTridx half v) h
  | tridxRead half => exact read _ (SameStores.readTridx half) h
  | trbankWrite v => exact same _ (SameStores.writeTrbank v) h
  | trdataRead => exact read _ SameStores.readTrdata h
  | qselWrite v => exact same _ (SameStores.writeQsel v) h
  | qquotaWrite half v => exact same _ (SameStores.writeQquota half v) h
  | qthrWrite half v => exact same _ (SameStores.writeQthr half v) h
  | qmodeWrite v => exact same _ (SameStores.writeQmode v) h
  | qdepthRead half => exact read _ (SameStores.readQdepth half) h
  | qlostRead half => exact read _ (SameStores.readQlost half) h
  | poolfreeRead half => exact read _ (SameStores.readPoolfree half) h
  | qdataRead k => exact read _ (SameStores.readQdata k) h
  | dbindWrite n v => exact same _ (SameStores.writeDbind n v) h
  | ddataRead n k => exact read _ (SameStores.readDdata n k) h
  | dmaAcknowledgeRead strobe => exact hP.ackAccess strobe hs h
  | rdataRead k => exact hP.answer (hP.readRdata k) hs h
  | rlossRead => exact read readRloss (fun _ => ⟨rfl, rfl, rfl⟩) h
  | timeRead k => exact read _ (SameStores.readTime k) h
  | adataRead k => exact read _ (SameStores.readAdata k) h
  | registerWrite strobe a v =>
    refine hP.hostAccess strobe a v (fun hst ha => hw ⟨v, .inr ?_⟩) hs h
    rw [hst, decodeAddr_pdata a ha]

/-- Every step keeps `P`, where a PDATA write and hardware reset keep it. -/
theorem step (hw : ∀ v s, P s → P (writePdata v s)) (hr : ∀ s, P s → P (resetAsserted s)) {s t : State} (hs : P s)
    (h : step s = .next t) : P t := by
  unfold Machine.step at h
  split at h
  · cases h; exact hs
  · next c rest _ =>
    have hs' : P { s with pending := rest } := hP.elsewhere s _ ⟨rfl, rfl, rfl⟩ hs
    exact hP.exec c (fun _ => hw) (fun _ => hr) hs' h

end KeptByOperations

end Sys2Proof

namespace Sys2Proof.Machine

section LaneUpdates

variable (s : State) (i j : LaneId) (l : LaneState)

/-! ### A lane's update and the other updates of the state -/

@[simp] theorem State.offerRecord_lanes (mode : BitVec 2) (r : FrameRecord) :
    (s.offerRecord mode r).lanes = s.lanes := by
  rcases s.offerRecord_cases mode r with ⟨-, e⟩ | ⟨-, -, e⟩ | ⟨-, -, e⟩ <;> simp [e]

@[simp] theorem State.offerRecord_tables (mode : BitVec 2) (r : FrameRecord) :
    (s.offerRecord mode r).tables = s.tables := by
  rcases s.offerRecord_cases mode r with ⟨-, e⟩ | ⟨-, -, e⟩ | ⟨-, -, e⟩ <;> simp [e]

@[simp] theorem State.lane_offerRecord (mode : BitVec 2) (r : FrameRecord) :
    (s.offerRecord mode r).lane j = s.lane j := by
  simp [State.lane]

theorem State.post_setLane (c : Cause) (src : Byte) :
    (s.setLane i l).post c src = (s.post c src).setLane i l := by
  cases h : s.attn.admits c with
  | true => rw [State.post_admitted s c src h, State.post_admitted (s.setLane i l) c src h]; rfl
  | false => rw [State.post_masked s c src h, State.post_masked (s.setLane i l) c src h]

theorem State.offerRecord_setLane (mode : BitVec 2) (r : FrameRecord) :
    (s.setLane i l).offerRecord mode r = (s.offerRecord mode r).setLane i l := by
  by_cases ho : modeOffers mode r = true
  · by_cases hl : s.records.list.length < Config.recordSlots
    · simp only [State.offerRecord, State.storeRecord, State.setLane_records, ho, hl, if_true]
      rfl
    · simp only [State.offerRecord, State.storeRecord, State.setLane_records, ho, hl, if_true, if_false]
      exact State.post_setLane { s with records.loss := satInc s.records.loss, records.gap := true } i l _ _
  · simp only [State.offerRecord, ho]
    rfl

/-- Whether a lane is swap pending rests on the banks in use and on ACTIVE alone. -/
theorem State.noLanePending_congr {s t : State} (hb : ∀ j, (t.lane j).bankInUse = (s.lane j).bankInUse)
    (ha : t.tables.active = s.tables.active) : t.noLanePending = s.noLanePending := by
  simp [State.noLanePending, State.swapPending, hb, ha]

/-- Taking the ACTIVE bank acts on the lane's bank in use alone, so another update of the lane can come after it. -/
theorem State.takeActive_setLane (h : l.bankInUse = (s.lane i).bankInUse) :
    (s.setLane i l).takeActive i = (s.takeActive i).setLane i { l with bankInUse := s.tables.active } := by
  have hp : (s.setLane i l).swapPending i = s.swapPending i := by simp [State.swapPending, h]
  have hn : ((s.setLane i l).mapLane i fun l => { l with bankInUse := s.tables.active }).noLanePending =
      (s.mapLane i fun l => { l with bankInUse := s.tables.active }).noLanePending := by
    refine State.noLanePending_congr (fun j => ?_) rfl
    rw [State.lane_mapLane, State.lane_mapLane, State.lane_setLane]
    split <;> rfl
  have hm : ((s.setLane i l).mapLane i fun l => { l with bankInUse := s.tables.active }) =
      (s.mapLane i fun l => { l with bankInUse := s.tables.active }).setLane i
        { l with bankInUse := s.tables.active } := by
    simp [State.mapLane]
  rcases s.takeActive_cases i with ⟨hs, e⟩ | ⟨hs, hl, e⟩ | ⟨hs, hl, e⟩
  · have hb : l.bankInUse = s.tables.active := by simpa [State.swapPending, h] using hs
    rw [e, ← hb]
    simp [State.takeActive, hp, hs]
  · rw [e, ← hm]
    simp only [State.takeActive, hp, hs, if_true, State.setLane_tables, hn, hl, Bool.false_eq_true, if_false]
  · rw [e, ← State.post_setLane]
    simp only [State.takeActive, hp, hs, if_true, State.setLane_tables, hn, hl]
    rw [hm]
    rfl

@[simp] theorem State.takeActive_active : (s.takeActive i).tables.active = s.tables.active := by
  rw [State.takeActive_tables]

/-! ### The search entry (R40, R50, R93) -/

/-- The state of the cycle tracker that a search entry leaves is the one that R50 names. -/
theorem Tracker.searchEntry_eq (p : Profile) (t : Tracker) :
    t.searchEntry p = { t with state := searchCycle p, miss := 0 } := by
  simp [Tracker.searchEntry, searchCycle, Profile.marked]

theorem State.searchNotice_eq :
    s.searchNotice i = (s.takeActive i).setLane i { s.lane i with
      tracker := { (s.lane i).tracker with state := searchCycle (s.lane i).intake.profile, miss := 0 },
      bankInUse := s.tables.active } := by
  unfold State.searchNotice State.mapLane
  rw [State.takeActive_setLane]
  · simp only [Tracker.searchEntry_eq]
  · rfl

theorem State.enterSearch_eq :
    s.enterSearch i = (s.takeActive i).setLane i (searchingLane (s.lane i) s.tables.active) := by
  unfold State.enterSearch State.mapLane
  rw [State.searchNotice_eq, State.takeActive_setLane]
  · simp [Engine.toSearch, searchingLane]
  · rfl

/-! ### A frame's end (R38, R39) -/

theorem State.endFrame_none (e : EndClass) (h : (s.lane i).engine.frame = none) : s.endFrame i e = s := by
  simp [State.endFrame, h]

theorem State.endFrame_some (e : EndClass) (f : Frame) (h : (s.lane i).engine.frame = some f) :
    s.endFrame i e = (offeredEnd s i (s.lane i) f e).setLane i (s.lane i).closeFrame := by
  unfold State.endFrame offeredEnd
  simp only [h]
  exact State.offerRecord_setLane s i _ _ _

/-- The record of a frame's end leaves every lane as it was. -/
@[simp] theorem lane_offeredEnd (m : LaneState) (f : Frame) (e : EndClass) :
    (offeredEnd s i m f e).lane j = s.lane j := by
  simp [offeredEnd]

@[simp] theorem offeredEnd_tables (m : LaneState) (f : Frame) (e : EndClass) :
    (offeredEnd s i m f e).tables = s.tables := by
  simp [offeredEnd]

theorem State.abandon_some (f : Frame) (h : (s.lane i).engine.frame = some f) :
    s.abandon i = (offeredEnd s i (s.lane i) f .abandoned).setLane i
      { (s.lane i).closeFrame with engine := { (s.lane i).closeFrame.engine with late := none } } := by
  unfold State.abandon State.mapLane
  rw [State.endFrame_some s i _ f h]
  simp

theorem State.abandon_none (h : (s.lane i).engine.frame = none) :
    s.abandon i = s.setLane i { s.lane i with engine := { (s.lane i).engine with late := none } } := by
  unfold State.abandon State.mapLane
  rw [State.endFrame_none s i _ h]

theorem State.loseLock_some (f : Frame) (h : (s.lane i).engine.frame = some f) :
    s.loseLock i = abandonedState s i (s.lane i) f := by
  unfold State.loseLock abandonedState
  rw [State.abandon_some s i f h, State.enterSearch_eq, State.takeActive_setLane _ _ _ (by simp [LaneState.closeFrame]),
    State.setLane_setLane, State.post_setLane]
  simp [searchingLane]

/-- What an abandoned frame leaves does not rest on the lane that it replaces, but for that lane's bank in use. -/
theorem abandonedState_setLane (m : LaneState) (f : Frame) (h : l.bankInUse = (s.lane i).bankInUse) :
    abandonedState (s.setLane i l) i m f = abandonedState s i m f := by
  unfold abandonedState offeredEnd
  rw [State.offerRecord_setLane, State.takeActive_setLane _ _ _ (by simpa using h), State.post_setLane,
    State.setLane_setLane]
  rfl

end LaneUpdates

end Sys2Proof.Machine

namespace Sys2Proof

open Sys2Proof.Machine

/-! ### What the profile conditions give (R14) -/

theorem maskHasOne_iff (m : BitVec 32) (n : Nat) : maskHasOne m n = true ↔ ∃ k, k < n ∧ m.getLsbD k = true := by
  induction n with
  | zero => simp [maskHasOne]
  | succ n ih =>
    simp only [maskHasOne, Bool.or_eq_true, ih]
    constructor
    · rintro (h | ⟨k, hk, h⟩)
      · exact ⟨n, by omega, h⟩
      · exact ⟨k, by omega, h⟩
    · rintro ⟨k, hk, h⟩
      by_cases hn : k = n
      · exact .inl (hn ▸ h)
      · exact .inr ⟨k, by omega, h⟩

/-- The part's test of a profile is the ten conditions. -/
theorem startable_iff (p : Profile) : p.startable = true ↔ MeetsStartConditions p := by
  have hc : p.checkCount ≤ 15 := by
    have := (p.bytes[13].extractLsb' 0 4).isLt
    simp only [Profile.checkCount]
    omega
  simp only [Profile.startable, MeetsStartConditions, Profile.positionOk, maskHasOne_iff, Bool.and_eq_true,
    Bool.or_eq_true, Bool.not_eq_true', Bool.and_eq_false_iff, decide_eq_true_eq, bne_iff_ne, beq_iff_eq, ne_eq,
    bne_eq_false_iff_eq, beq_eq_false_iff_ne, and_assoc]
  simp only [Profile.syncLen]
  constructor
  · rintro ⟨hW, hW', hS, hS', hL, hL', hN, hN', hmask, hEs, hEl, hC, hpol, hCw, hB, hB', hCk, hne⟩
    exact ⟨hW, hW', hS, hS', hL, hL', hN, hN', hmask, hEs, hEl, hC, hc, hpol, by omega, hB, hB', by omega,
      fun h => hne.resolve_left h⟩
  · rintro ⟨hW, hW', hS, hS', hL, hL', hN, hN', hmask, hEs, hEl, hC, -, hpol, hCw, hB, hB', hCk, hne⟩
    exact ⟨hW, hW', hS, hS', hL, hL', hN, hN', hmask, hEs, hEl, hC, hpol, by omega, hB, hB', by omega,
      or_iff_not_imp_left.2 hne⟩

theorem startable_wordLen {p : Profile} (h : p.startable = true) : 8 ≤ p.wordLen := by
  obtain ⟨⟨hw, -⟩, -⟩ := (startable_iff p).1 h
  exact hw

theorem startable_syncLen {p : Profile} (h : p.startable = true) : 8 ≤ p.syncLen ∧ p.syncLen ≤ 32 := by
  obtain ⟨-, hl, -⟩ := (startable_iff p).1 h
  exact hl

/-- A frame is longer than its sync. -/
theorem startable_frameBits {p : Profile} (h : p.startable = true) : p.syncLen < p.frameBits := by
  have hw := startable_wordLen h
  obtain ⟨-, -, ⟨hn, -⟩, -⟩ := (startable_iff p).1 h
  calc p.syncLen < (p.syncWords + 1) * p.wordLen := by simp only [Profile.syncLen, Nat.add_mul]; omega
    _ ≤ p.frameBits := Nat.mul_le_mul_right _ hn

theorem searchCycle_counted (p : Profile) : searchCycle p = .counted ↔ p.marked = false := by
  unfold searchCycle Profile.marked
  split <;> simp_all

/-! ### The partners of a word leave intake, engine and bank alone -/

/-- `m` differs from `l` in the check block and the selector alone. -/
structure SameUpstream (l m : LaneState) : Prop where
  intake : m.intake = l.intake
  engine : m.engine = l.engine
  tracker : m.tracker = l.tracker
  bank : m.bankInUse = l.bankInUse

namespace SameUpstream

theorem refl (l : LaneState) : SameUpstream l l := ⟨rfl, rfl, rfl, rfl⟩

theorem trans {l m n : LaneState} (h : SameUpstream l m) (k : SameUpstream m n) : SameUpstream l n :=
  ⟨k.intake.trans h.intake, k.engine.trans h.engine, k.tracker.trans h.tracker, k.bank.trans h.bank⟩

theorem of_eq {l m : LaneState} (h : m = l) : SameUpstream l m := h ▸ refl l

variable (s : State) (i : LaneId)

theorem setLane (l : LaneState) (h : SameUpstream (s.lane i) l) : SameUpstream (s.lane i) ((s.setLane i l).lane i) := by
  simpa using h

theorem deliver (q : QueueId) (r : WordRecord) : SameUpstream (s.lane i) ((s.deliver i q r).lane i) := by
  unfold State.deliver
  rw [State.lane_mapLane_self, (SameStores.offerWord s q r).lane i]
  exact ⟨rfl, rfl, rfl, rfl⟩

theorem stageWord (x : Staged) : SameUpstream (s.lane i) ((s.stageWord i x).lane i) := by
  unfold State.stageWord
  dsimp only
  split
  · rw [State.lane_mapLane_self]; exact ⟨rfl, rfl, rfl, rfl⟩
  · split
    · rw [State.lane_mapLane_self]; exact ⟨rfl, rfl, rfl, rfl⟩
    · rw [State.lane_post, State.lane_mapLane_self]; exact ⟨rfl, rfl, rfl, rfl⟩

theorem releaseAll (xs : List Staged) : SameUpstream (s.lane i) ((s.releaseAll i xs).lane i) :=
  State.releaseAll_keeps (fun t => SameUpstream (s.lane i) (t.lane i)) i
    (fun t q r h => h.trans (deliver t i q r)) xs s (refl _)

theorem compareCheck (v : BitVec 16) : SameUpstream (s.lane i) ((s.compareCheck i v).lane i) := by
  unfold State.compareCheck
  dsimp only
  split
  · split
    · exact setLane s i _ ⟨rfl, rfl, rfl, rfl⟩
    · refine trans (setLane s i _ ?_) (releaseAll _ i _)
      exact ⟨rfl, rfl, rfl, rfl⟩
  · rw [State.lane_post]; exact setLane s i _ ⟨rfl, rfl, rfl, rfl⟩

theorem checkWordNotice (x : Nat) (v : BitVec 16) : SameUpstream (s.lane i) ((s.checkWordNotice i x v).lane i) := by
  unfold State.checkWordNotice
  dsimp only
  split
  · exact refl _
  · split
    · exact setLane s i _ ⟨rfl, rfl, rfl, rfl⟩
    · split
      · exact compareCheck s i v
      · exact refl _

theorem evaluateEntry (x : Nat) (v : BitVec 16) (e : SelEntry) :
    SameUpstream (s.lane i) ((s.evaluateEntry i x v e).lane i) := by
  unfold State.evaluateEntry
  dsimp only
  split
  · exact refl _
  · exact setLane s i _ ⟨rfl, rfl, rfl, rfl⟩
  · split
    · exact stageWord s i _
    · exact deliver s i _ _

theorem advanceCursor : SameUpstream (s.lane i) ((s.advanceCursor i).lane i) := by
  unfold State.advanceCursor
  rw [State.lane_mapLane_self]
  exact ⟨rfl, rfl, rfl, rfl⟩

theorem selectWord (x : Nat) (v : BitVec 16) : SameUpstream (s.lane i) ((s.selectWord i x v).lane i) := by
  unfold State.selectWord
  dsimp only
  split
  · split
    · exact refl _
    · exact State.walk_keeps (fun t => SameUpstream (s.lane i) (t.lane i)) i x v
        (fun t h => h.trans (advanceCursor t i)) (fun t e h => h.trans (evaluateEntry t i x v e)) _ s (refl _)
  · exact refl _

end SameUpstream

/-! ### The cycle tracker's state and miss count (R51 to R55) -/

/-- A frame start leaves the cycle state and the miss count. -/
theorem Tracker.startFrame_state_miss (p : Profile) (kind : StartKind) (t : Tracker) :
    (t.startFrame p kind).state = t.state ∧ (t.startFrame p kind).miss = t.miss := by
  unfold Tracker.startFrame
  split
  · unfold Tracker.startMarked
    split <;> exact ⟨rfl, rfl⟩
  · exact ⟨rfl, rfl⟩

/-- A counter word never enters CY_COUNTED. -/
theorem Tracker.counter_not_counted (p : Profile) (v : Nat) (t : Tracker) (h : t.state ≠ .counted) :
    (t.counter p v).1.state ≠ .counted := by
  unfold Tracker.counter
  cases hs : t.state <;> (repeat' split) <;> simp_all

/-- A miss count of 0 or 1 stays 0 or 1. -/
theorem Tracker.counter_miss (p : Profile) (v : Nat) (t : Tracker) (h : t.miss ≤ 1) : (t.counter p v).1.miss ≤ 1 := by
  cases hs : t.state with
  | search => simp only [Tracker.counter, hs]; split <;> exact h
  | verify => simp only [Tracker.counter, hs]; (repeat' split) <;> simp [h]
  | lock =>
    simp only [Tracker.counter, hs]
    split
    · simp
    · split
      · simp
      · next hn => simp only; omega
  | counted => simpa only [Tracker.counter, hs] using h

end Sys2Proof

namespace Sys2Proof

open Sys2Proof.Machine

/-! ### A lane's engine, profile, history length, cycle state and miss count decide `StartedOk` -/

namespace StartedOk

variable {l m : LaneState}

/-- A lane with the lock state, position, profile, cycle state and miss count of a sound one, no shorter a history and
no new late test, is sound. -/
theorem congr (h : StartedOk l) (hlock : m.engine.lock = l.engine.lock) (hpos : m.engine.bitPos = l.engine.bitPos)
    (hlate : m.engine.late = none ∨ m.engine.late = l.engine.late) (hprof : m.intake.profile = l.intake.profile)
    (hhist : l.intake.hist.length ≤ m.intake.hist.length)
    (hcycle : m.tracker.state = l.tracker.state ∧ m.tracker.miss = l.tracker.miss) : StartedOk m := by
  have hrun : m.running = l.running := by simp [LaneState.running, hlock]
  constructor
  · rw [hrun, hprof]; exact h.profile
  · rw [hrun, hprof, hcycle.1]; exact h.mode
  · rw [hcycle.2]; exact h.miss
  · rw [hrun, hprof, hpos]; exact h.position
  · rw [hlock, hprof, hpos]
    rcases hlate with e | e <;> rw [e]
    · simp
    · exact h.late
  · rw [hlock, hprof]; exact fun hl => (h.window hl).trans hhist
  · rw [hlock, hprof]; exact fun hl => (h.earlyWindow hl).trans hhist

theorem sameUpstream (h : StartedOk l) (k : SameUpstream l m) : StartedOk m := by
  refine h.congr ?_ ?_ (.inr ?_) ?_ (le_of_eq ?_) ?_ <;> simp [k.engine, k.intake, k.tracker]

/-- A lane that does not run is sound by its miss count alone. -/
theorem off (hl : l.engine.lock = .off) (hm : l.tracker.miss ≤ 1) : StartedOk l where
  profile h := by simp [LaneState.running, hl] at h
  mode h := by simp [LaneState.running, hl] at h
  miss := hm
  position h := by simp [LaneState.running, hl] at h
  late h := by simp [hl] at h
  window h := by simp [hl] at h
  earlyWindow h := by simp [hl] at h

theorem startable (h : StartedOk l) (hl : l.engine.lock ≠ .off) : l.intake.profile.startable = true :=
  h.profile (by simpa [LaneState.running] using hl)

/-- An entry to SEARCH leaves a lane with a startable profile sound (R20, R40, R50). -/
theorem searching (hp : l.intake.profile.startable = true) (b : Bank) : StartedOk (searchingLane l b) where
  profile _ := hp
  mode _ := searchCycle_counted _
  miss := Nat.zero_le 1
  position _ := Nat.zero_lt_of_lt (startable_frameBits hp)
  late h := by simp [searchingLane] at h
  window h := by simp [searchingLane] at h
  earlyWindow h := by simp [searchingLane] at h

/-- A lane in LOCK or COAST, no late test pending, from the parts that a sound lane has. -/
theorem inFrame (h : StartedOk l) (hl : m.engine.lock = .lock ∨ m.engine.lock = .coast) (hr : l.engine.lock ≠ .off)
    (hp : m.intake.profile = l.intake.profile) (ht : m.tracker = l.tracker)
    (hpos : m.engine.bitPos < l.intake.profile.frameBits)
    (hlate : m.engine.late.isSome = true → m.engine.bitPos + 1 = l.intake.profile.syncLen)
    (hw : l.intake.profile.syncLen + 1 ≤ m.intake.hist.length) : StartedOk m where
  profile _ := by rw [hp]; exact h.startable hr
  mode _ := by rw [hp, ht]; exact h.mode (by simpa [LaneState.running] using hr)
  miss := by rw [ht]; exact h.miss
  position _ := by rw [hp]; exact hpos
  late _ := by rw [hp]; exact hlate
  window hc := by rcases hl with e | e <;> simp [e] at hc
  earlyWindow _ := by rw [hp]; exact hw

end StartedOk

theorem push_hist_length (x : Intake) (b : Bool) : (x.push b).hist.length = min 33 (x.hist.length + 1) := by
  simp only [Intake.push, Config.historyBits, List.length_take, List.length_cons]

/-- A bit pushed keeps the windows: a sync is at most 32 bits long. -/
theorem StartedOk.push {l : LaneState} (h : StartedOk l) (b : Bool) :
    StartedOk { l with intake := l.intake.push b } where
  profile := h.profile
  mode := h.mode
  miss := h.miss
  position := h.position
  late := h.late
  window hl := by
    have hL := startable_syncLen (h.startable (by simp [show l.engine.lock = .check from hl]))
    have hw := h.window hl
    simp only [push_hist_length]
    change l.intake.profile.syncLen ≤ _
    omega
  earlyWindow hl := by
    have hL := startable_syncLen (h.startable (by rcases hl with e | e <;> simp [show l.engine.lock = _ from e]))
    have hw := h.earlyWindow hl
    simp only [push_hist_length]
    change l.intake.profile.syncLen + 1 ≤ _
    omega

/-! ### Word notices and the start and end of a frame -/

section Notices

variable {s : State} {i : LaneId} (h : StartedOk (s.lane i))
include h

theorem StartedOk.trackWord (x : Nat) (v : BitVec 16) : StartedOk ((s.trackWord i x v).lane i) := by
  have counted (hm : (s.lane i).intake.profile.marked = true) (n : Nat) : StartedOk
      { s.lane i with tracker := ((s.lane i).tracker.counter (s.lane i).intake.profile n).1 } := by
    refine { h with mode := fun hr => ?_, miss := Tracker.counter_miss _ _ _ h.miss }
    have hs : (s.lane i).tracker.state ≠ .counted := fun e => by simp [(h.mode hr).1 e] at hm
    have hs' := Tracker.counter_not_counted (s.lane i).intake.profile n _ hs
    exact iff_of_false hs' (by simp [hm])
  unfold State.trackWord
  dsimp only
  split
  · next hc =>
    split
    · rw [State.lane_setLane_self]; exact counted hc.1 _
    · rw [State.lane_post, State.lane_setLane_self]; exact counted hc.1 _
  · exact h

theorem StartedOk.wordNotice (x : Nat) (v : BitVec 16) : StartedOk ((s.wordNotice i x v).lane i) :=
  (h.trackWord x v).sameUpstream ((SameUpstream.checkWordNotice _ i x v).trans (SameUpstream.selectWord _ i x v))

theorem StartedOk.syncNotices (w : List Bool) : StartedOk ((s.syncNotices i w).lane i) :=
  State.foldl_keeps (fun t => StartedOk (t.lane i)) _ (fun _ _ k => k.wordNotice _ _) _ s h

theorem StartedOk.startFrame (kind : StartKind) (slip : StartSlip) (w : List Bool) :
    StartedOk ((s.startFrame i kind slip w).lane i) := by
  refine StartedOk.syncNotices ?_ w
  rw [State.lane_setLane_self]
  exact h.congr rfl rfl (.inr rfl) rfl le_rfl (Tracker.startFrame_state_miss _ _ _)

theorem StartedOk.takeActive : StartedOk ((s.takeActive i).lane i) := by
  rw [State.lane_takeActive, if_pos rfl]
  exact h.congr rfl rfl (.inr rfl) rfl le_rfl ⟨rfl, rfl⟩

end Notices

/-- After a frame's end the lane is as before, or closed. -/
theorem State.lane_endFrame (s : State) (i : LaneId) (e : EndClass) :
    (s.endFrame i e).lane i = s.lane i ∨ (s.endFrame i e).lane i = (s.lane i).closeFrame := by
  cases hf : (s.lane i).engine.frame with
  | none => left; rw [State.endFrame_none s i e hf]
  | some f => right; rw [State.endFrame_some s i e f hf, State.lane_setLane_self]

theorem StartedOk.endFrame {s : State} {i : LaneId} (h : StartedOk (s.lane i)) (e : EndClass) :
    StartedOk ((s.endFrame i e).lane i) := by
  rcases State.lane_endFrame s i e with k | k <;> rw [k]
  · exact h
  · exact h.congr rfl rfl (.inr rfl) rfl le_rfl ⟨rfl, rfl⟩

theorem lock_endFrame (s : State) (i : LaneId) (e : EndClass) :
    ((s.endFrame i e).lane i).engine.lock = (s.lane i).engine.lock := by
  rcases State.lane_endFrame s i e with k | k <;> rw [k]
  rfl

/-! ### Sync evaluations (R24 to R32) -/

/-- The lane without its late test. -/
def Machine.LaneState.dropLate (l : LaneState) : LaneState :=
  { l with engine := { l.engine with late := none } }

section Evaluations

variable {s : State} {i : LaneId}

theorem StartedOk.enterSearch (hp : (s.lane i).intake.profile.startable = true) :
    StartedOk ((s.enterSearch i).lane i) := by
  rw [State.enterSearch_eq, State.lane_setLane_self]
  exact StartedOk.searching hp _

theorem StartedOk.failToSearch (hp : (s.lane i).intake.profile.startable = true) :
    StartedOk ((s.failToSearch i).lane i) := by
  unfold State.failToSearch
  rw [State.searchNotice_eq, State.lane_setLane_self, State.lane_takeActive, if_pos rfl, State.lane_mapLane_self]
  exact StartedOk.searching (l := s.lane i) hp _

/-- A frame that starts in LOCK or COAST, once the late test is over, leaves the lane sound. -/
theorem StartedOk.beginFrame (h : StartedOk (s.lane i))
    (hl : (s.lane i).engine.lock = .lock ∨ (s.lane i).engine.lock = .coast)
    (hlate : (s.lane i).engine.late = none) (st : LockState) (hst : st = .lock ∨ st = .coast) (bad : Nat)
    (kind : StartKind) (slip : StartSlip) (w : List Bool) :
    StartedOk ((((s.mapLane i fun l => { l with engine := { l.engine with lock := st, bad := bad } }).takeActive
      i).startFrame i kind slip w).lane i) := by
  have hr : (s.lane i).engine.lock ≠ .off := by rcases hl with e | e <;> simp [e]
  refine StartedOk.startFrame (StartedOk.takeActive ?_) kind slip w
  rw [State.lane_mapLane_self]
  exact h.inFrame hst hr rfl rfl (h.position (by simpa [LaneState.running] using hr)) (by simp [hlate])
    (h.earlyWindow hl)

theorem StartedOk.acceptSlip {l : LaneState} (h : StartedOk l.dropLate)
    (hl : l.engine.lock = .lock ∨ l.engine.lock = .coast) (c : StartSlip) : StartedOk (l.acceptSlip c) := by
  have hr : l.engine.lock ≠ .off := by rcases hl with e | e <;> simp [e]
  have hF := startable_frameBits (h.startable hr)
  have hF' : l.intake.profile.syncLen < l.intake.profile.frameBits := hF
  cases c with
  | none => exact h
  | early => exact h.inFrame hl hr rfl rfl hF (by simp [LaneState.acceptSlip]) (h.earlyWindow hl)
  | late =>
    refine h.inFrame hl hr rfl rfl ?_ (by simp [LaneState.acceptSlip]) (h.earlyWindow hl)
    simp only [LaneState.acceptSlip, LaneState.dropLate]
    omega

theorem acceptSlip_engine (c : StartSlip) (l : LaneState) :
    (l.acceptSlip c).engine.lock = l.engine.lock ∧ (l.acceptSlip c).engine.late = none := by
  cases c <;> exact ⟨rfl, rfl⟩

theorem late_endFrame (s : State) (i : LaneId) (e : EndClass) :
    ((s.endFrame i e).lane i).engine.late = (s.lane i).engine.late := by
  rcases State.lane_endFrame s i e with k | k <;> rw [k]
  rfl

theorem StartedOk.acceptSync (h : StartedOk (s.lane i).dropLate)
    (hl : (s.lane i).engine.lock = .lock ∨ (s.lane i).engine.lock = .coast) (c : StartSlip) (w : List Bool) :
    StartedOk ((s.acceptSync i c w).lane i) := by
  obtain ⟨hlock, hlate⟩ := acceptSlip_engine c (s.lane i)
  refine StartedOk.beginFrame (StartedOk.endFrame ?_ _) ?_ ?_ .lock (.inl rfl) 0 .lock c w
  · rw [State.lane_mapLane_self]; exact h.acceptSlip hl c
  · rw [lock_endFrame, State.lane_mapLane_self, hlock]; exact hl
  · rw [late_endFrame, State.lane_mapLane_self, hlate]

theorem StartedOk.rejectSync (h : StartedOk (s.lane i).dropLate)
    (hl : (s.lane i).engine.lock = .lock ∨ (s.lane i).engine.lock = .coast) (w : List Bool) :
    StartedOk ((s.rejectSync i w).lane i) := by
  have hend : StartedOk (((s.mapLane i LaneState.dropLate).endFrame i .unconfirmed).lane i) :=
    StartedOk.endFrame (by rw [State.lane_mapLane_self]; exact h) _
  have hlock : (((s.mapLane i LaneState.dropLate).endFrame i .unconfirmed).lane i).engine.lock =
      (s.lane i).engine.lock := by
    rw [lock_endFrame, State.lane_mapLane_self]; rfl
  have hlate : (((s.mapLane i LaneState.dropLate).endFrame i .unconfirmed).lane i).engine.late = none := by
    rw [late_endFrame, State.lane_mapLane_self]; rfl
  have hcoast := hend.beginFrame (by rw [hlock]; exact hl) hlate .coast (.inr rfl) (s.lane i).engine.badNext .coast .none w
  unfold State.rejectSync
  dsimp only
  split
  · split
    · rw [State.lane_post]; exact hcoast
    · exact hcoast
  · rw [State.lane_post]
    exact StartedOk.failToSearch (hend.startable (by rw [hlock]; rcases hl with e | e <;> simp [e]))

theorem StartedOk.evaluateLock (h : StartedOk (s.lane i))
    (hl : (s.lane i).engine.lock = .lock ∨ (s.lane i).engine.lock = .coast)
    (hend : (s.lane i).engine.bitPos + 1 = (s.lane i).intake.profile.syncLen) :
    StartedOk ((s.evaluateLock i).lane i) := by
  have hd : StartedOk (s.lane i).dropLate := h.congr rfl rfl (.inl rfl) rfl le_rfl ⟨rfl, rfl⟩
  unfold State.evaluateLock
  dsimp only
  split
  · exact hd.acceptSync hl _ _
  · split
    · split
      · exact hd.acceptSync hl _ _
      · rw [State.lane_mapLane_self]
        exact { h with late := fun _ _ => hend }
    · exact hd.rejectSync hl _

theorem StartedOk.completeLate (h : StartedOk (s.lane i).dropLate)
    (hl : (s.lane i).engine.lock = .lock ∨ (s.lane i).engine.lock = .coast) (tol : Nat) :
    StartedOk ((s.completeLate i tol).lane i) := by
  unfold State.completeLate
  dsimp only
  split
  · exact h.acceptSync hl _ _
  · exact h.rejectSync hl _

theorem StartedOk.gainLock (h : StartedOk (s.lane i)) (hl : (s.lane i).engine.lock = .check)
    (hend : (s.lane i).engine.bitPos + 1 = (s.lane i).intake.profile.syncLen)
    (hw : (s.lane i).intake.profile.syncLen + 1 ≤ (s.lane i).intake.hist.length) :
    StartedOk ((s.gainLock i).lane i) := by
  unfold State.gainLock
  dsimp only
  rw [State.lane_post]
  refine StartedOk.startFrame (StartedOk.takeActive ?_) _ _ _
  rw [State.lane_mapLane_self]
  exact h.inFrame (.inl rfl) (by simp [hl]) rfl rfl (h.position (by simp [LaneState.running, hl])) (fun _ => hend) hw

theorem StartedOk.evaluateCheck (h : StartedOk (s.lane i)) (hl : (s.lane i).engine.lock = .check)
    (hend : (s.lane i).engine.bitPos + 1 = (s.lane i).intake.profile.syncLen)
    (hw : (s.lane i).intake.profile.syncLen + 1 ≤ (s.lane i).intake.hist.length) :
    StartedOk ((s.evaluateCheck i).lane i) := by
  unfold State.evaluateCheck
  dsimp only
  split
  · split
    · exact h.gainLock hl hend hw
    · refine StartedOk.takeActive ?_
      rw [State.lane_mapLane_self]
      exact h.congr rfl rfl (.inr rfl) rfl le_rfl ⟨rfl, rfl⟩
  · exact StartedOk.failToSearch (h.startable (by simp [hl]))

/-! ### One bit (R22 to R24, R27, R33) -/

theorem StartedOk.searchBit (h : StartedOk (s.lane i)) (hl : (s.lane i).engine.lock = .search) :
    StartedOk ((s.searchBit i).lane i) := by
  have hp := h.startable (by simp [hl])
  have hr : (s.lane i).running = true := by simp [LaneState.running, hl]
  have aligned (hw : (s.lane i).intake.profile.syncLen ≤ (s.lane i).intake.hist.length) (m : LaneState)
      (he : m.engine.lock = .check ∧ m.engine.bitPos = (s.lane i).intake.profile.syncLen - 1)
      (hprof : m.intake.profile = (s.lane i).intake.profile)
      (hhist : m.intake.hist.length = (s.lane i).intake.hist.length) (ht : m.tracker = (s.lane i).tracker) :
      StartedOk m := by
    have hF := startable_frameBits hp
    refine ⟨fun _ => by rw [hprof]; exact hp, fun _ => by rw [hprof, ht]; exact h.mode hr, by rw [ht]; exact h.miss,
      fun _ => by rw [hprof, he.2]; omega, fun hc => by simp [he.1] at hc, fun _ => by rw [hprof, hhist]; exact hw,
      fun hc => by simp [he.1] at hc⟩
  unfold State.searchBit
  dsimp only
  split
  · next hw =>
    split
    · exact h
    · unfold State.searchMatch
      dsimp only
      split
      · rw [State.lane_setLane_self]; exact aligned hw _ ⟨rfl, rfl⟩ rfl rfl rfl
      · rw [State.lane_post, State.lane_setLane_self]
        exact aligned hw _ ⟨rfl, rfl⟩ rfl (by simp [Intake.setPolarity]) rfl
  · exact h

theorem nextBitPos_lt {p : Profile} (hp : p.startable = true) (x : Nat) : nextBitPos p x < p.frameBits := by
  have := startable_frameBits hp
  unfold nextBitPos
  split <;> omega

theorem lane_advanceBit (s : State) (i : LaneId) : (s.advanceBit i).lane i =
    { s.lane i with engine := { (s.lane i).engine with
      bitPos := nextBitPos (s.lane i).intake.profile (s.lane i).engine.bitPos } } :=
  State.lane_mapLane_self s i _

theorem atSyncEnd_iff (l : LaneState) : l.atSyncEnd = true ↔ l.engine.bitPos + 1 = l.intake.profile.syncLen := by
  simp [LaneState.atSyncEnd]

theorem StartedOk.checkBit (h : StartedOk (s.lane i)) (hl : (s.lane i).engine.lock = .check)
    (hw : (s.lane i).intake.profile.syncLen + 1 ≤ (s.lane i).intake.hist.length) :
    StartedOk ((s.checkBit i).lane i) := by
  have ha : StartedOk ((s.advanceBit i).lane i) := by
    rw [lane_advanceBit]
    exact { h with
      position := fun _ => nextBitPos_lt (h.startable (by simp [hl])) _
      late := fun hc => by simp [hl] at hc }
  unfold State.checkBit
  dsimp only
  split
  · next hend =>
    refine ha.evaluateCheck ?_ ((atSyncEnd_iff _).1 hend) ?_ <;> rw [lane_advanceBit]
    · exact hl
    · exact hw
  · exact ha

theorem StartedOk.sliceWord (h : StartedOk (s.lane i)) : StartedOk ((s.sliceWord i).lane i) := by
  unfold State.sliceWord
  dsimp only
  split
  · exact h.wordNotice _ _
  · exact h

theorem StartedOk.lockBit (h : StartedOk (s.lane i))
    (hl : (s.lane i).engine.lock = .lock ∨ (s.lane i).engine.lock = .coast) : StartedOk ((s.lockBit i).lane i) := by
  have hr : (s.lane i).engine.lock ≠ .off := by rcases hl with e | e <;> simp [e]
  have hd : StartedOk ((s.advanceBit i).lane i).dropLate := by
    rw [lane_advanceBit]
    exact { h with
      position := fun _ => nextBitPos_lt (h.startable hr) _
      late := fun _ hs => by simp [LaneState.dropLate] at hs }
  have hla : ((s.advanceBit i).lane i).engine.lock = .lock ∨ ((s.advanceBit i).lane i).engine.lock = .coast := by
    rw [lane_advanceBit]; exact hl
  unfold State.lockBit
  dsimp only
  split
  · exact hd.completeLate hla _
  · next hnone =>
    have ha : StartedOk ((s.advanceBit i).lane i) := by
      refine hd.congr rfl rfl (.inl ?_) rfl le_rfl ⟨rfl, rfl⟩
      rw [lane_advanceBit]; exact hnone
    split
    · next hend => exact ha.evaluateLock hla ((atSyncEnd_iff _).1 hend)
    · exact ha.sliceWord

/-- A bit of a running lane leaves it sound. -/
theorem StartedOk.takeBit (h : StartedOk (s.lane i)) (b : Bool) : StartedOk ((takeBit i b s).lane i) := by
  unfold Machine.takeBit
  split
  · have hb : StartedOk ((s.mapLane i fun l => { l with intake := l.intake.push b }).lane i) := by
      rw [State.lane_mapLane_self]; exact h.push b
    unfold State.engineBit
    split
    · exact hb
    · next hl => exact hb.searchBit hl
    · next hl =>
      refine hb.checkBit hl ?_
      rw [State.lane_mapLane_self] at hl ⊢
      have hL := startable_syncLen (h.startable (by simp [show (s.lane i).engine.lock = .check from hl]))
      have hw := h.window hl
      simp only [push_hist_length]
      change (s.lane i).intake.profile.syncLen + 1 ≤ _
      omega
    · next hl => exact hb.lockBit (.inl hl)
    · next hl => exact hb.lockBit (.inr hl)
  · exact h

end Evaluations

end Sys2Proof

namespace Sys2Proof

open Sys2Proof.Machine

/-! ### TAKE_BIT reaches its own lane alone -/

namespace LaneFrame

variable (i : LaneId) (s : State)

theorem searchBit : LaneFrame i s (s.searchBit i) := by
  unfold State.searchBit
  dsimp only
  split
  · split
    · exact refl i s
    · exact searchMatch i s _
  · exact refl i s

theorem gainLock : LaneFrame i s (s.gainLock i) :=
  after (post i _ _ _) (after (startFrame i _ _ _ _) (after (takeActive i _)
    (mapLane i s _ (fun _ => rfl) fun _ => rfl)))

theorem evaluateCheck : LaneFrame i s (s.evaluateCheck i) := by
  unfold State.evaluateCheck
  dsimp only
  split
  · split
    · exact gainLock i s
    · exact after (takeActive i _) (mapLane i s _ (fun _ => rfl) fun _ => rfl)
  · exact failToSearch i s

theorem evaluateLock : LaneFrame i s (s.evaluateLock i) := by
  unfold State.evaluateLock
  dsimp only
  split
  · exact acceptSync i s _ _
  · split
    · split
      · exact acceptSync i s _ _
      · exact mapLane i s _ (fun _ => rfl) fun _ => rfl
    · exact rejectSync i s _

theorem completeLate (tol : Nat) : LaneFrame i s (s.completeLate i tol) := by
  unfold State.completeLate
  dsimp only
  split
  · exact acceptSync i s _ _
  · exact rejectSync i s _

theorem sliceWord : LaneFrame i s (s.sliceWord i) := by
  unfold State.sliceWord
  dsimp only
  split
  · exact wordNotice i s _ _
  · exact refl i s

theorem advanceBit : LaneFrame i s (s.advanceBit i) := mapLane i s _ (fun _ => rfl) fun _ => rfl

theorem checkBit : LaneFrame i s (s.checkBit i) := by
  unfold State.checkBit
  dsimp only
  split
  · exact after (evaluateCheck i _) (advanceBit i s)
  · exact advanceBit i s

theorem lockBit : LaneFrame i s (s.lockBit i) := by
  unfold State.lockBit
  dsimp only
  split
  · exact after (completeLate i _ _) (advanceBit i s)
  · split
    · exact after (evaluateLock i _) (advanceBit i s)
    · exact after (sliceWord i _) (advanceBit i s)

theorem engineBit : LaneFrame i s (s.engineBit i) := by
  unfold State.engineBit
  split
  · exact refl i s
  · exact searchBit i s
  · exact checkBit i s
  · exact lockBit i s
  · exact lockBit i s

theorem takeBit (b : Bool) : LaneFrame i s (takeBit i b s) := by
  unfold Machine.takeBit
  split
  · exact after (engineBit i _) (mapLane i s _ (fun _ => rfl) fun _ => rfl)
  · exact refl i s

/-- The frame does not speak of the data lines. -/
theorem dataOut (d : Option Byte) : LaneFrame i s { s with dataOut := d } := by
  constructor <;> intros <;> rfl

theorem resyncLane : LaneFrame i s (resyncLane i s).2 := by
  unfold Machine.resyncLane
  split
  · exact returnToSearch i s
  · exact refl i s

theorem startLane : LaneFrame i s (startLane i s).2 := by
  unfold Machine.startLane
  split
  · exact refl i s
  · split
    · exact after (searchNotice i _) (mapLane i s _ (fun _ => rfl) fun _ => rfl)
    · exact refl i s

theorem stopLane : LaneFrame i s (stopLane i s).2 := by
  unfold Machine.stopLane
  split
  · exact after (takeActive i _) (after (mapLane i _ _ (fun _ => rfl) fun _ => rfl) (abandon i s))
  · exact takeActive i s

end LaneFrame

/-- Settles O10: each call of `takeBit` reaches lane `i` alone, and so does the state of the data lines. -/
theorem takeBitFrame : Obligations.TakeBitFrame := by
  unfold Obligations.TakeBitFrame
  intro s t i b h
  exact act_keeps (LaneFrame i s) (fun _ _ k => k.trans (LaneFrame.dataOut i _ _)) _
    (fun _ k => k.trans (LaneFrame.takeBit i _ b)) s t (LaneFrame.refl i s) h

/-! ### Running lanes stay sound -/

namespace LanesStarted

variable {s t : State}

theorem of_lanes (h : LanesStarted s) (e : t.lanes = s.lanes) : LanesStarted t := by
  intro j
  rw [show t.lane j = s.lane j by simp [State.lane, e]]
  exact h j

/-- What a happening of lane `i` leaves is sound if lane `i` is. -/
theorem of_laneFrame {i : LaneId} (h : LanesStarted s) (k : LaneFrame i s t) (hi : StartedOk (t.lane i)) :
    LanesStarted t := by
  intro j
  by_cases hj : j = i
  · rw [hj]; exact hi
  · rw [k.others j hj]; exact h j

theorem map (h : LanesStarted s) (f : LaneState → LaneState) (hf : ∀ l, StartedOk l → StartedOk (f l))
    (e : t.lanes = s.lanes.map f) : LanesStarted t := by
  intro j
  rw [show t.lane j = f (s.lane j) by simp [State.lane, e]]
  exact hf _ (h j)

theorem setLane (h : LanesStarted s) (i : LaneId) (l : LaneState) (hl : StartedOk l) : LanesStarted (s.setLane i l) := by
  intro j
  rw [State.lane_setLane]
  split
  · exact hl
  · exact h j

end LanesStarted

variable {s : State}

theorem StartedOk.countSilence {l : LaneState} (h : StartedOk l) : StartedOk l.countSilence := by
  rw [LaneState.countSilence_eq]
  exact h.congr rfl rfl (.inr rfl) rfl le_rfl ⟨rfl, rfl⟩

theorem StartedOk.swapTo {l : LaneState} (h : StartedOk l) (b : Bank) : StartedOk (l.swapTo b) := by
  unfold LaneState.swapTo
  split
  · exact h.congr rfl rfl (.inr rfl) rfl le_rfl ⟨rfl, rfl⟩
  · exact h

theorem StartedOk.stop {l : LaneState} (h : StartedOk l) : StartedOk l.stop := StartedOk.off rfl h.miss

theorem StartedOk.abandon {i : LaneId} (h : StartedOk (s.lane i)) : StartedOk ((s.abandon i).lane i) := by
  unfold State.abandon
  rw [State.lane_mapLane_self]
  exact (h.endFrame _).congr rfl rfl (.inl rfl) rfl le_rfl ⟨rfl, rfl⟩

theorem StartedOk.loseLock {i : LaneId} (h : StartedOk (s.lane i)) (hl : (s.lane i).engine.lock ≠ .off) :
    StartedOk ((s.loseLock i).lane i) := by
  unfold State.loseLock
  rw [State.lane_post]
  refine StartedOk.enterSearch ?_
  rw [(LaneFrame.abandon i s).profile]
  exact h.startable hl

theorem StartedOk.returnToSearch {i : LaneId} (h : StartedOk (s.lane i)) : StartedOk ((s.returnToSearch i).lane i) := by
  unfold State.returnToSearch
  split
  · exact h
  · exact h
  · next hl => exact StartedOk.enterSearch (h.startable (by simp [hl]))
  · next hl => exact h.loseLock (by simp [hl])
  · next hl => exact h.loseLock (by simp [hl])

theorem StartedOk.expireSilence {i : LaneId} (h : StartedOk (s.lane i)) : StartedOk ((s.expireSilence i).lane i) := by
  unfold State.expireSilence
  refine StartedOk.returnToSearch ?_
  rw [State.lane_post, State.lane_mapLane_self]
  exact h.congr rfl rfl (.inr rfl) rfl le_rfl ⟨rfl, rfl⟩

theorem StartedOk.startLane {i : LaneId} (h : StartedOk (s.lane i)) : StartedOk ((startLane i s).2.lane i) := by
  unfold Machine.startLane
  split
  · exact h
  · split
    · next hp =>
      rw [State.searchNotice_eq, State.lane_setLane_self, State.lane_mapLane_self]
      exact StartedOk.searching (l := (s.lane i).start) hp _
    · exact h

theorem StartedOk.stopLane {i : LaneId} (h : StartedOk (s.lane i)) : StartedOk ((stopLane i s).2.lane i) := by
  unfold Machine.stopLane
  split
  · refine StartedOk.takeActive ?_
    rw [State.lane_mapLane_self]
    exact h.abandon.stop
  · exact h.takeActive

theorem StartedOk.resyncLane {i : LaneId} (h : StartedOk (s.lane i)) : StartedOk ((resyncLane i s).2.lane i) := by
  unfold Machine.resyncLane
  split
  · exact h.returnToSearch
  · exact h

theorem StartedOk.softReset {l : LaneState} (h : StartedOk l) (b : Bank) : StartedOk (l.softReset b) :=
  StartedOk.off rfl h.miss

end Sys2Proof

namespace Sys2Proof

open Sys2Proof.Machine

/-! ### PDATA (R9 to R11) -/

/-- The profile with one byte written. -/
def Machine.Profile.setByte (p : Profile) (k : Fin 24) (v : Byte) : Profile := { bytes := p.bytes.set k v }

/-- A byte that is the lowest of its field takes effect alone. -/
theorem commitField_single (x : Intake) (k : Fin 24) (v : Byte) (hk : fieldFirst k.val = k.val) :
    x.commitField k.val v = x.profile.setByte k (storedByte k.val v) := by
  simp only [Intake.commitField, Machine.Profile.setByte, Profile.mk.injEq]
  apply Vector.ext
  intro j hj
  rw [Vector.getElem_ofFn, Vector.getElem_set]
  by_cases h : j = k.val
  · simp [h]
  · have hlt : ¬(k.val ≤ j ∧ j < k.val) := by omega
    simp [h, Ne.symm h, hk, hlt]

/-- The bytes that a running lane accepts are fields of their own. -/
theorem live_single (k : Fin 24) (h : structuralByte k.val = false) :
    fieldFirst k.val = k.val ∧ fieldHighest k.val = k.val ∧ (k = 12 ∨ k = 13 ∨ k = 14 ∨ k = 15) := by
  revert h k
  decide

/-- Two profiles alike in the structural bytes, for the fields that R14 reads there. -/
structure SameStructure (p q : Profile) : Prop where
  wordLen : q.wordLen = p.wordLen
  syncWords : q.syncWords = p.syncWords
  frameWords : q.frameWords = p.frameWords
  mask : q.mask = p.mask
  counterWord : q.counterWord = p.counterWord
  counterWidth : q.counterWidth = p.counterWidth
  checkWord : q.checkWord = p.checkWord
  cycleLen : q.cycleLen = p.cycleLen

theorem SameStructure.setByte (p : Profile) (k : Fin 24) (v : Byte) (h : structuralByte k.val = false) :
    SameStructure p (p.setByte k v) := by
  obtain ⟨-, -, rfl | rfl | rfl | rfl⟩ := live_single k h <;>
  constructor <;>
  simp [Machine.Profile.setByte, Profile.wordLen, Profile.syncWords, Profile.frameWords, Profile.mask,
    Profile.counterWord, Profile.counterWidth, Profile.checkWord, Profile.cycleLen]

namespace SameStructure

variable {p q : Profile} (h : SameStructure p q)
include h

theorem syncLen : q.syncLen = p.syncLen := by simp only [Profile.syncLen, h.wordLen, h.syncWords]

theorem frameBits : q.frameBits = p.frameBits := by simp only [Profile.frameBits, h.wordLen, h.frameWords]

theorem marked : q.marked = p.marked := by simp only [Profile.marked, h.counterWord, h.cycleLen]

theorem startable (hp : p.startable = true) (htol : q.searchTol ≤ 7 ∧ q.lockTol ≤ 7) (hc : 1 ≤ q.checkCount)
    (hm : q.polarityMode ≠ 3) : q.startable = true := by
  rw [Profile.startable] at hp ⊢
  simp only [h.wordLen, h.syncWords, h.syncLen, h.frameWords, h.mask, h.counterWord, h.counterWidth, h.checkWord,
    Profile.positionOk, htol, hc, hm, Bool.and_eq_true, decide_eq_true_eq, bne_iff_ne, ne_eq, not_false_eq_true,
    and_true] at hp ⊢
  tauto

end SameStructure

/-- Bits 7 to 5 of byte 14 are no part of the polarity mode (R169). -/
theorem polarityMode_stored (v : Byte) : (v &&& 0x1F).extractLsb' 0 2 = v.extractLsb' 0 2 := by
  ext j hj
  have : j = 0 ∨ j = 1 := by omega
  rcases this with rfl | rfl <;> simp

theorem Machine.Profile.bytes_setByte (p : Profile) (k j : Fin 24) (v : Byte) :
    (p.setByte k v).bytes[j] = if j = k then v else p.bytes[j] := by
  simp [Machine.Profile.setByte, Vector.getElem_set, Fin.ext_iff, eq_comm]

/-- A live byte in range leaves a running lane's profile startable (R11, R14). -/
theorem startable_setByte (p : Profile) (k : Fin 24) (v : Byte) (hp : p.startable = true)
    (hk : structuralByte k.val = false) (hv : liveRefused p k.val v = false) :
    (p.setByte k (storedByte k.val v)).startable = true := by
  obtain ⟨-, -, -, -, ⟨hs, hl, hc, -⟩, hm, -⟩ := (startable_iff p).1 hp
  have h12 := Profile.bytes_setByte p k 12 (storedByte k.val v)
  have h13 := Profile.bytes_setByte p k 13 (storedByte k.val v)
  have h14 := Profile.bytes_setByte p k 14 (storedByte k.val v)
  refine (SameStructure.setByte p k _ hk).startable hp ?_ ?_ ?_
  · change ((Profile.bytes _)[(12 : Fin 24)].extractLsb' 0 4).toNat ≤ 7 ∧
      ((Profile.bytes _)[(12 : Fin 24)].extractLsb' 4 4).toNat ≤ 7
    rw [h12]
    split
    · next e => subst e; simpa [liveRefused, storedByte] using hv
    · exact ⟨hs, hl⟩
  · change 1 ≤ ((Profile.bytes _)[(13 : Fin 24)].extractLsb' 0 4).toNat
    rw [h13]
    split
    · next e =>
      subst e
      have hne : v.extractLsb' 0 4 ≠ 0 := by simpa [liveRefused] using hv
      exact Nat.one_le_iff_ne_zero.2 fun e => hne (BitVec.eq_of_toNat_eq e)
    · exact hc
  · change (Profile.bytes _)[(14 : Fin 24)].extractLsb' 0 2 ≠ 3
    rw [h14]
    split
    · next e =>
      subst e
      have hpol : v.extractLsb' 0 2 = p.polarityMode := by simpa [liveRefused] using hv
      exact (polarityMode_stored v).trans hpol ▸ hm
    · exact hm

/-- An accepted byte of a running lane is a live byte in range (R10, R11). -/
theorem running_accepts {l : LaneState} {k : Nat} {v : Byte} (h : l.refusesByte k v = false) (hr : l.running = true) :
    structuralByte k = false ∧ liveRefused l.intake.profile k v = false := by
  simp only [LaneState.refusesByte, hr, Bool.true_and, Bool.or_eq_false_iff] at h
  exact h.2

/-- An accepted byte of a running lane is stored alone. -/
theorem storeByte_live (x : Intake) (k : Fin 24) (v : Byte) (h : structuralByte k.val = false) :
    x.storeByte k v = { x with profile := x.profile.setByte k (storedByte k.val v) } := by
  obtain ⟨hf, hh, -⟩ := live_single k h
  simp only [Intake.storeByte, hh, if_true, commitField_single x k v hf]

/-- An accepted profile byte leaves the lane sound (R9 to R11). -/
theorem StartedOk.storeByte {l : LaneState} (h : StartedOk l) (k : Fin 24) (v : Byte)
    (ha : l.refusesByte k.val v = false) : StartedOk { l with intake := l.intake.storeByte k v } := by
  by_cases hr : l.running = true
  · obtain ⟨hk, hv⟩ := running_accepts ha hr
    have hq := SameStructure.setByte l.intake.profile k (storedByte k.val v) hk
    rw [storeByte_live _ _ _ hk]
    exact {
      profile := fun _ => startable_setByte _ k v (h.profile hr) hk hv
      mode := fun _ => by rw [hq.marked]; exact h.mode hr
      miss := h.miss
      position := fun _ => by rw [hq.frameBits]; exact h.position hr
      late := by rw [hq.syncLen]; exact h.late
      window := by rw [hq.syncLen]; exact h.window
      earlyWindow := by rw [hq.syncLen]; exact h.earlyWindow }
  · exact StartedOk.off (by simpa [LaneState.running] using hr) h.miss

theorem LanesStarted.writePdata {s : State} (h : LanesStarted s) (v : Byte) : LanesStarted (writePdata v s) := by
  unfold Machine.writePdata
  split
  · exact h.of_lanes (SameStores.refuseConfig s).lanes
  · next ha =>
    have k := h.setLane s.lsel _ ((h s.lsel).storeByte s.pidx v (by simpa using ha))
    exact k.of_lanes rfl

theorem StartedOk.reset : StartedOk LaneState.reset := StartedOk.off rfl (Nat.zero_le 1)

/-- After a reset every lane is in its reset column. -/
theorem lane_resetAsserted (s : State) (i : LaneId) : (resetAsserted s).lane i = LaneState.reset :=
  Vector.getElem_replicate i.isLt

/-- Every operation that reaches a lane keeps the running lanes sound. -/
theorem LanesStarted.keptByOperations : KeptByOperations LanesStarted where
  elsewhere _ _ e h := h.of_lanes e.lanes
  takeBit i b s h := h.of_laneFrame (LaneFrame.takeBit i s b) ((h i).takeBit b)
  countTick s h := h.map LaneState.countSilence (fun _ => StartedOk.countSilence) rfl
  expireSilence s i h := h.of_laneFrame (LaneFrame.expireSilence i s) (h i).expireSilence
  startLane i s h := h.of_laneFrame (LaneFrame.startLane i s) (h i).startLane
  stopLane i s h := h.of_laneFrame (LaneFrame.stopLane i s) (h i).stopLane
  resyncLane i s h := h.of_laneFrame (LaneFrame.resyncLane i s) (h i).resyncLane
  swapTables s h := by
    have k : LanesStarted { s with lanes := s.lanes.map (LaneState.swapTo s.tables.edit) } :=
      h.map (LaneState.swapTo s.tables.edit) (fun _ hl => hl.swapTo _) rfl
    unfold Machine.swapTables
    dsimp only
    split
    · exact h
    · split
      · exact k.of_lanes (State.post_lanes _ _ _)
      · exact k.of_lanes rfl
  copyOne s h := h.of_lanes (lanes_copyOne s)
  flushRecords _ h := h.of_lanes rfl
  softResetAll s h := h.map (LaneState.softReset s.tables.active) (fun _ hl => hl.softReset _) rfl
  readLslip s h := h.setLane s.lsel _ ((h s.lsel).congr rfl rfl (.inr rfl) rfl le_rfl ⟨rfl, rfl⟩)
  readRdata k s h := h.of_lanes (lanes_readRdata k s)
  writeTwdata v s h := h.of_lanes (lanes_writeTwdata v s)

/-- Settles O54: every operation that reaches a lane keeps it sound, and so does a PDATA write; after hardware reset no
lane runs. -/
theorem runningLanesStaySound : Obligations.RunningLanesStaySound := by
  unfold Obligations.RunningLanesStaySound
  intro s t h hstep
  refine LanesStarted.keptByOperations.step (fun v _ k => k.writePdata v) (fun s _ i => ?_) h hstep
  rw [lane_resetAsserted]
  exact StartedOk.reset

end Sys2Proof

namespace Sys2Proof

open Sys2Proof.Machine

/-! ### LANE_START, LANE_STOP and LANE_RESYNC (R14 to R17) -/

section LaneCommands

variable {s : State} {i : LaneId}

/-- A lane command of the lane that CARG names reports the status of its owner. -/
theorem laneCommand_up (code : Byte) (f : LaneId → State → CmdStatus × State) (hup : s.resetLow = false)
    (hi : s.carg.toNat = i.val) :
    act (command code (withLane f)) s =
      .next { (f i s).2 with clast := code, cstat := (f i s).1, dataOut := none } := by
  have hlt : s.carg.toNat < 4 := hi ▸ i.isLt
  have he : (⟨s.carg.toNat, hlt⟩ : LaneId) = i := Fin.ext hi
  rw [act_up _ s hup, command, withLane_of_lt f s hlt, he]

theorem running_iff (l : LaneState) : l.running = true ↔ l.engine.lock ≠ .off := by
  simp [LaneState.running]

/-- The lane that LANE_START leaves (R15, R50): its tracker, selector and check block closed, its search entered. -/
theorem startLane_done (hl : (s.lane i).engine.lock = .off) (hp : MeetsStartConditions (s.lane i).intake.profile) :
    startLane i s =
      (.done, (s.takeActive i).setLane i (searchingLane (s.lane i).start s.tables.active)) := by
  have hr : (s.lane i).running = false := by simp [LaneState.running, hl]
  simp only [startLane, hr, (startable_iff _).2 hp, Bool.false_eq_true, if_false, if_true]
  rw [State.searchNotice_eq, State.mapLane, State.takeActive_setLane _ _ _ (by rfl), State.setLane_setLane,
    State.lane_setLane_self]
  rfl

theorem startLane_badProfile (hl : (s.lane i).engine.lock = .off)
    (hp : ¬MeetsStartConditions (s.lane i).intake.profile) : startLane i s = (.refused .badProfile, s) := by
  have hr : (s.lane i).running = false := by simp [LaneState.running, hl]
  rw [← startable_iff] at hp
  simp only [startLane, hr, hp, Bool.false_eq_true, if_false]

theorem startLane_wrongState (hl : (s.lane i).engine.lock ≠ .off) : startLane i s = (.refused .wrongState, s) := by
  simp only [startLane, (running_iff _).2 hl, if_true]

/-- Settles O26: LANE_START by the lane's state and its profile. -/
theorem laneStartCommand : Obligations.LaneStartCommand := by
  unfold Obligations.LaneStartCommand
  intro s i hup hi
  have hexec : exec .laneStart s = .next { (startLane i s).2 with
      clast := 0x01, cstat := (startLane i s).1, dataOut := none } := laneCommand_up 0x01 startLane hup hi
  refine ⟨fun hl hp => ?_, fun hl hp => ?_, fun hl => ?_⟩
  · rw [hexec, startLane_done hl hp]
    rfl
  · rw [hexec, startLane_badProfile hl hp]
  · rw [hexec, startLane_wrongState hl]

theorem stopLane_off (hl : (s.lane i).engine.lock = .off) : stopLane i s = (.done, s.takeActive i) := by
  simp [stopLane, LaneState.running, hl]

/-- LANE_STOP of a lane without a delivered frame (R16). -/
theorem stopLane_noFrame (hl : (s.lane i).engine.lock ≠ .off) (hf : (s.lane i).engine.frame = none) :
    stopLane i s = (.done, (s.takeActive i).setLane i (stoppedLane (s.lane i) s.tables.active)) := by
  simp only [stopLane, (running_iff _).2 hl, if_true]
  rw [State.abandon_none s i hf, State.mapLane, State.setLane_setLane, State.lane_setLane_self,
    State.takeActive_setLane _ _ _ (by rfl)]
  rfl

/-- LANE_STOP of a lane whose delivered frame it abandons (R16, R39). -/
theorem stopLane_frame (f : Frame) (hl : (s.lane i).engine.lock ≠ .off) (hf : (s.lane i).engine.frame = some f) :
    stopLane i s = (.done, ((offeredEnd s i (s.lane i) f .abandoned).takeActive i).setLane i
      (stoppedLane (s.lane i) s.tables.active)) := by
  simp only [stopLane, (running_iff _).2 hl, if_true]
  rw [State.abandon_some s i f hf, State.mapLane, State.setLane_setLane, State.lane_setLane_self,
    State.takeActive_setLane _ _ _ (by rw [lane_offeredEnd]; rfl), offeredEnd_tables]
  rfl

/-- Settles O27: LANE_STOP by the lane's state and its frame. -/
theorem laneStopCommand : Obligations.LaneStopCommand := by
  unfold Obligations.LaneStopCommand
  intro s i hup hi
  have hexec : exec .laneStop s = .next { (stopLane i s).2 with
      clast := 0x02, cstat := (stopLane i s).1, dataOut := none } := laneCommand_up 0x02 stopLane hup hi
  refine ⟨fun hl => ?_, fun hl hf => ?_, fun f hl hf => ?_⟩
  · rw [hexec, stopLane_off hl]
  · rw [hexec, stopLane_noFrame (by rcases hl with e | e <;> simp [e]) hf]
  · rw [hexec, stopLane_frame f (by rcases hl with e | e <;> simp [e]) hf]

/-- The return to SEARCH of a lane with a delivered frame loses its lock. -/
theorem returnToSearch_frame (f : Frame) (hl : (s.lane i).engine.lock = .lock ∨ (s.lane i).engine.lock = .coast)
    (hf : (s.lane i).engine.frame = some f) : s.returnToSearch i = abandonedState s i (s.lane i) f := by
  rw [← State.loseLock_some s i f hf, State.returnToSearch]
  rcases hl with e | e <;> simp only [e]

theorem returnToSearch_check (hl : (s.lane i).engine.lock = .check) :
    s.returnToSearch i = (s.takeActive i).setLane i (searchingLane (s.lane i) s.tables.active) := by
  rw [← State.enterSearch_eq, State.returnToSearch]
  simp only [hl]

theorem returnToSearch_search (hl : (s.lane i).engine.lock = .search) : s.returnToSearch i = s := by
  simp only [State.returnToSearch, hl]

theorem resyncLane_running (hl : (s.lane i).engine.lock ≠ .off) : resyncLane i s = (.done, s.returnToSearch i) := by
  simp only [resyncLane, (running_iff _).2 hl, if_true]

/-- Settles O28: LANE_RESYNC is the return to SEARCH of a running lane. -/
theorem laneResyncCommand : Obligations.LaneResyncCommand := by
  unfold Obligations.LaneResyncCommand
  intro s i hup hi
  have hexec : exec .laneResync s = .next { (resyncLane i s).2 with
      clast := 0x03, cstat := (resyncLane i s).1, dataOut := none } := laneCommand_up 0x03 resyncLane hup hi
  refine ⟨fun hl => ?_, fun hl => ?_, fun hl => ?_, fun f hl hf => ?_⟩
  · have hr : resyncLane i s = (.refused .wrongState, s) := by simp [resyncLane, LaneState.running, hl]
    rw [hexec, hr]
  · rw [hexec, resyncLane_running (by simp [hl]), returnToSearch_search hl]
  · rw [hexec, resyncLane_running (by simp [hl]), returnToSearch_check hl]
  · rw [hexec, resyncLane_running (by rcases hl with e | e <;> simp [e]), returnToSearch_frame f hl hf]

end LaneCommands

/-! ### Silence (R4, R5, R39) -/

section Silence

variable {s : State} {i : LaneId}

/-- The lane once its silent flag is set (R5). -/
def Machine.LaneState.silenced (l : LaneState) : LaneState := { l with intake := { l.intake with silent := true } }

/-- An expiry sets the flag, posts LANE_SILENT and returns the lane to SEARCH. -/
theorem expireSilence_eq (s : State) (i : LaneId) :
    s.expireSilence i =
      ((s.post .laneSilent (laneSource i)).setLane i (s.lane i).silenced).returnToSearch i := by
  rw [← State.post_setLane]
  rfl

/-- The lane is silent and in SEARCH. -/
def SilentInSearch (l : LaneState) : Prop := l.intake.silent = true ∧ l.engine.lock = .search

theorem lane_enterSearch (s : State) (i : LaneId) :
    (s.enterSearch i).lane i = searchingLane (s.lane i) s.tables.active := by
  rw [State.enterSearch_eq, State.lane_setLane_self]

/-- The expiry of a running lane leaves it silent and in SEARCH. -/
theorem lane_expireSilence (hl : (s.lane i).engine.lock ≠ .off) : SilentInSearch ((s.expireSilence i).lane i) := by
  rw [expireSilence_eq]
  have hs : ((((s.post .laneSilent (laneSource i)).setLane i (s.lane i).silenced)).lane i) = (s.lane i).silenced :=
    State.lane_setLane_self _ _ _
  generalize (s.post .laneSilent (laneSource i)).setLane i (s.lane i).silenced = u at hs ⊢
  have hsilent : (u.lane i).intake.silent = true := by rw [hs]; rfl
  have habandon : ((u.abandon i).lane i).intake.silent = true := by
    rw [State.abandon, State.lane_mapLane_self]
    rcases State.lane_endFrame u i .abandoned with e | e <;> rw [e] <;> exact hsilent
  unfold State.returnToSearch
  split
  · next h => rw [hs] at h; exact absurd h hl
  · next h => exact ⟨hsilent, h⟩
  · rw [lane_enterSearch]; exact ⟨hsilent, rfl⟩
  · rw [State.loseLock, State.lane_post, lane_enterSearch]; exact ⟨habandon, rfl⟩
  · rw [State.loseLock, State.lane_post, lane_enterSearch]; exact ⟨habandon, rfl⟩

/-- Expiries of any lanes leave a lane that is silent and in SEARCH so. -/
theorem silentInSearch_foldl (order : List LaneId) (h : SilentInSearch (s.lane i)) :
    SilentInSearch ((order.foldl State.expireSilence s).lane i) := by
  refine State.foldl_keeps (fun t => SilentInSearch (t.lane i)) _ (fun t j ht => ?_) order s h
  by_cases hj : i = j
  · subst hj; exact lane_expireSilence (by simp [ht.2])
  · rw [(LaneFrame.expireSilence j t).others i hj]; exact ht

/-- A running lane among the lanes that expire is then silent and in SEARCH. -/
theorem silentInSearch_of_mem (order : List LaneId) (hi : i ∈ order) (hl : (s.lane i).engine.lock ≠ .off) :
    SilentInSearch ((order.foldl State.expireSilence s).lane i) := by
  induction order generalizing s with
  | nil => simp at hi
  | cons j order ih =>
    rw [List.foldl_cons]
    by_cases hj : i = j
    · subst hj; exact silentInSearch_foldl order (lane_expireSilence hl)
    · refine ih (by simpa [hj] using hi) ?_
      rw [(LaneFrame.expireSilence j s).others i hj]; exact hl

theorem silentInSearch_expireAll (due : List LaneId) (hi : i ∈ due) (hl : (s.lane i).engine.lock ≠ .off) :
    SilentInSearch ((s.expireAll due).lane i) := by
  unfold State.expireAll
  split
  · simp at hi
  · next j => rw [List.mem_singleton] at hi; subst hi; exact lane_expireSilence hl
  · exact silentInSearch_of_mem (s := s) _ ((arrange_perm _ _).mem_iff.2 hi) hl

/-- A lane is among those that a tick makes expire exactly where the statements say so. -/
theorem mem_dueLanes_iff : i ∈ s.countTick.dueLanes ↔ ExpiryDue ((tickedState s).lane i) := by
  rw [State.mem_dueLanes, LaneState.silenceDue_iff, State.countTick_eq]

/-- Expiries leave the time base. -/
theorem time_expireAll (due : List LaneId) : (s.expireAll due).time = s.time :=
  State.expireAll_keeps (fun t => t.time = s.time) (fun _ _ h => h)
    (fun _ j h => (LaneFrame.expireSilence j _).time.trans h) due s rfl

/-- A tick in which one lane alone expires. -/
theorem takeTick_single (hdue : ExpiryDue ((tickedState s).lane i))
    (hothers : ∀ j, j ≠ i → ¬ExpiryDue ((tickedState s).lane j)) :
    takeTick s = (tickedState s).expireSilence i := by
  have honly : ∀ j ∈ s.countTick.dueLanes, j = i := fun j hj =>
    by_contra fun hne => hothers j hne (mem_dueLanes_iff.1 hj)
  have hlist : s.countTick.dueLanes = [i] := by
    have hmem := mem_dueLanes_iff.2 hdue
    have hrep := List.eq_replicate_of_mem honly
    have hlen : s.countTick.dueLanes.length ≤ 1 := List.nodup_replicate.1 (hrep ▸ s.countTick.dueLanes_nodup)
    have hpos := List.length_pos_of_mem hmem
    rw [hrep, show s.countTick.dueLanes.length = 1 by omega]
    rfl
  rw [takeTick, hlist, ← State.countTick_eq]
  rfl

/-- What TICK leaves of the lane that expires in it, and of the time counter (R5, R143). -/
theorem takeTick_expires (hdue : ExpiryDue ((tickedState s).lane i)) :
    (takeTick s).time.counter = s.time.counter + 1 ∧ SilentInSearch ((takeTick s).lane i) := by
  refine ⟨?_, silentInSearch_expireAll _ (mem_dueLanes_iff.2 hdue) ?_⟩
  · rw [takeTick, time_expireAll]
    rfl
  · rw [State.countTick_eq]
    exact hdue.1

/-- The expiry of a lane with a delivered frame abandons it (R5, R39). -/
theorem expireSilence_frame (f : Frame) (hl : (s.lane i).engine.lock = .lock ∨ (s.lane i).engine.lock = .coast)
    (hf : (s.lane i).engine.frame = some f) :
    s.expireSilence i = abandonedState (s.post .laneSilent (laneSource i)) i (s.lane i).silenced f := by
  rw [expireSilence_eq, returnToSearch_frame f (by rw [State.lane_setLane_self]; exact hl)
    (by rw [State.lane_setLane_self]; exact hf), State.lane_setLane_self]
  exact abandonedState_setLane _ i _ _ f (by rw [State.lane_post]; rfl)

theorem expireSilence_check (hl : (s.lane i).engine.lock = .check) :
    s.expireSilence i = ((s.post .laneSilent (laneSource i)).takeActive i).setLane i
      (searchingLane (s.lane i).silenced s.tables.active) := by
  rw [expireSilence_eq, returnToSearch_check (by rw [State.lane_setLane_self]; exact hl), State.lane_setLane_self,
    State.takeActive_setLane _ _ _ (by rw [State.lane_post]; rfl), State.setLane_setLane, State.setLane_tables,
    State.post_tables]

theorem expireSilence_search (hl : (s.lane i).engine.lock = .search) :
    s.expireSilence i = (s.post .laneSilent (laneSource i)).setLane i (s.lane i).silenced := by
  rw [expireSilence_eq, returnToSearch_search (by rw [State.lane_setLane_self]; exact hl)]

/-- Settles O24: the expiry by the lane's state, and SILENCE_EXPIRY as the tick in which the lane expires. -/
theorem silenceExpires : Obligations.SilenceExpires := by
  unfold Obligations.SilenceExpires
  intro s i
  refine ⟨expireSilence_search, expireSilence_check, fun f hl hf => expireSilence_frame f hl hf, fun hup => ?_⟩
  have hexec : exec (.silenceExpiry i) s = .next { silenceEvent i s with dataOut := none } := act_up _ s hup
  have htick : exec .tick s = .next { takeTick s with dataOut := none } := act_up _ s hup
  rcases silenceEvent_cases s i with ⟨hdue, e⟩ | ⟨hnot, e⟩
  · rw [hexec, e]
    obtain ⟨htime, hlane⟩ := takeTick_expires hdue
    refine ⟨fun _ => ⟨htick.symm, _, rfl, htime, hlane⟩, fun _ ho => ?_, fun hn => absurd hdue hn⟩
    rw [takeTick_single hdue ho]
  · rw [hexec, e]
    exact ⟨fun hd => absurd hd hnot, fun hd => absurd hd hnot, fun _ => rfl⟩

end Silence

end Sys2Proof

namespace Sys2Proof

open Sys2Proof.Machine

/-! ### LSEL, PIDX, LSLIP, LSEQ (R6, R7, R37) -/

/-- An index goes up by 1, from its last value to 0. -/
theorem nextIdx_eq {n : Nat} (k : Fin (n + 1)) : nextIdx k = if k = Fin.last n then 0 else k + 1 := by
  unfold nextIdx
  split
  · next h => rw [h, Fin.last_add_one]
  · rfl

theorem writeLsel_of_eq (s : State) (v : Byte) (i : LaneId) (h : v.toNat = i.val) :
    writeLsel v s = { s with lsel := i } := by
  have hlt : v.toNat < 4 := h ▸ i.isLt
  have he : (⟨v.toNat, hlt⟩ : LaneId) = i := Fin.ext h
  simp only [writeLsel, hlt, dite_true, he]

theorem writePidx_of_eq (s : State) (v : Byte) (k : Fin 24) (h : v.toNat = k.val) :
    writePidx v s = { s with pidx := k } := by
  have hlt : v.toNat < 24 := h ▸ k.isLt
  have he : (⟨v.toNat, hlt⟩ : Fin 24) = k := Fin.ext h
  simp only [writePidx, hlt, dite_true, he]

/-- Settles O35: each access is the write or the read that its register defines. -/
theorem profilePortAndReadouts : Obligations.ProfilePortAndReadouts := by
  unfold Obligations.ProfilePortAndReadouts
  intro s v hup
  have write : ∀ f : State → State, act f s = .next { f s with dataOut := none } := fun f => act_up f s hup
  have read : ∀ f : State → Byte × State, answer f s = .next { (f s).2 with dataOut := some (f s).1 } :=
    fun f => answer_up f s hup
  refine ⟨fun i hi => ?_, fun hv => ?_, fun k hk => ?_, fun hv => ?_, ?_, read readLslip, read (readLseq .low),
    read (readLseq .high)⟩
  · rw [show exec (.lselWrite v) s = _ from write (writeLsel v), writeLsel_of_eq s v i hi]
  · have hlt : ¬v.toNat < 4 := by omega
    rw [show exec (.lselWrite v) s = _ from write (writeLsel v), writeLsel, dif_neg hlt]
    rfl
  · rw [show exec (.pidxWrite v) s = _ from write (writePidx v), writePidx_of_eq s v k hk]
  · have hlt : ¬v.toNat < 24 := by omega
    rw [show exec (.pidxWrite v) s = _ from write (writePidx v), writePidx, dif_neg hlt]
    rfl
  · rw [show exec .pdataRead s = _ from read readPdata, readPdata, State.advancePidx, nextIdx_eq]
    rfl

/-! ### PDATA writes (R9 to R11) -/

/-- A refused write of PDATA posts CONFIG_REFUSED and advances PIDX. -/
theorem pdataWrite_refused {s : State} {v : Byte} (hup : s.resetLow = false)
    (h : (s.lane s.lsel).refusesByte s.pidx.val v = true) :
    exec (.pdataWrite v) s = .next { s.post .configRefused 0xFF with
      pidx := if s.pidx = 23 then 0 else s.pidx + 1, dataOut := none } := by
  rw [show exec (.pdataWrite v) s = _ from act_up (writePdata v) s hup, writePdata, if_pos h, State.advancePidx,
    nextIdx_eq, State.refuseConfig, State.post_pidx]
  rfl

/-- An accepted write of PDATA stores the byte and advances PIDX. -/
theorem pdataWrite_accepted {s : State} {v : Byte} (hup : s.resetLow = false)
    (h : (s.lane s.lsel).refusesByte s.pidx.val v = false) :
    exec (.pdataWrite v) s = .next { s.setLane s.lsel { s.lane s.lsel with
      intake := (s.lane s.lsel).intake.storeByte s.pidx v } with
      pidx := if s.pidx = 23 then 0 else s.pidx + 1, dataOut := none } := by
  rw [show exec (.pdataWrite v) s = _ from act_up (writePdata v) s hup, writePdata, if_neg (by simp [h]),
    State.advancePidx, nextIdx_eq]
  rfl

/-- The live bytes by number. -/
theorem val_live (k : Fin 24) : (k.val = 12 ↔ k = 12) ∧ (k.val = 13 ↔ k = 13) ∧ (k.val = 14 ↔ k = 14) := by
  simp [Fin.ext_iff]

theorem recordMode3_iff (k : Fin 24) (v : Byte) :
    recordMode3 k.val v = true ↔ k = 14 ∧ v.extractLsb' 3 2 = 3 := by
  simp [recordMode3, Fin.ext_iff]

theorem refusesByte_off {l : LaneState} (hl : l.engine.lock = .off) (k : Nat) (v : Byte) :
    l.refusesByte k v = recordMode3 k v := by
  simp [LaneState.refusesByte, LaneState.running, hl]

/-- A byte below the highest of its field is a lower byte of one of the six multi-byte fields. -/
theorem lower_iff (k : Fin 24) :
    k.val ≠ fieldHighest k.val ↔ ∃ f ∈ multiByteFields, f.1 ≤ k.val ∧ k.val < f.2 := by
  revert k
  decide

/-- The bytes that a highest byte takes from the holding place are the lower bytes of its field. -/
theorem held_iff (k j : Fin 24) (hk : k.val = fieldHighest k.val) :
    (fieldFirst k.val ≤ j.val ∧ j.val < k.val) ↔
      ∃ f ∈ multiByteFields, f.2 = k.val ∧ f.1 ≤ j.val ∧ j.val < f.2 := by
  revert hk j k
  decide

/-- The profile byte by byte once a field takes effect (R9). -/
theorem commitField_bytes (x : Intake) (k j : Fin 24) (v : Byte) (hk : k.val = fieldHighest k.val) :
    (x.commitField k.val v).bytes[j] =
      if j = k then (if k = 14 then v &&& 0x1F else v)
      else if ∃ f ∈ multiByteFields, f.2 = k.val ∧ f.1 ≤ j.val ∧ j.val < f.2 then x.holding[j]
      else x.profile.bytes[j] := by
  obtain ⟨-, -, h14⟩ := val_live k
  simp only [Intake.commitField, Fin.getElem_fin, Vector.getElem_ofFn, ← held_iff k j hk, Fin.val_inj, storedByte, h14]

/-- Settles O36: refused by record mode 3, held below a field's highest byte, and else the field stored. -/
theorem pdataWriteOffLane : Obligations.PdataWriteOffLane := by
  unfold Obligations.PdataWriteOffLane
  intro s v hup hoff
  have hrefuse : (s.lane s.lsel).refusesByte s.pidx.val v = true ↔ s.pidx = 14 ∧ v.extractLsb' 3 2 = 3 := by
    rw [refusesByte_off hoff, recordMode3_iff]
  refine ⟨fun hk hv => pdataWrite_refused hup (hrefuse.2 ⟨hk, hv⟩), fun hlow => ?_, fun hlow hmode => ?_⟩
  · have h14 : s.pidx ≠ 14 := by
      intro e
      rw [e] at hlow
      revert hlow
      decide
    rw [pdataWrite_accepted hup (Bool.eq_false_iff.2 fun h => h14 (hrefuse.1 h).1), Intake.storeByte,
      if_neg ((lower_iff s.pidx).2 hlow)]
  · have hk : s.pidx.val = fieldHighest s.pidx.val := by_contra fun h => hlow ((lower_iff s.pidx).1 h)
    refine ⟨(s.lane s.lsel).intake.commitField s.pidx.val v, fun j => commitField_bytes _ s.pidx j v hk, ?_⟩
    rw [pdataWrite_accepted hup (Bool.eq_false_iff.2 fun h => hmode (hrefuse.1 h)), Intake.storeByte, if_pos hk]

/-- What a running lane refuses (R10, R11). -/
theorem refusesByte_running {l : LaneState} (hl : l.engine.lock ≠ .off) (k : Fin 24) (v : Byte) :
    l.refusesByte k.val v = true ↔
      k.val ≤ 11 ∨ 16 ≤ k.val ∨
      (k = 12 ∧ (7 < (v.extractLsb' 0 4).toNat ∨ 7 < (v.extractLsb' 4 4).toNat)) ∨
      (k = 13 ∧ v.extractLsb' 0 4 = 0) ∨
      (k = 14 ∧ (v.extractLsb' 0 2 ≠ l.intake.profile.bytes[14].extractLsb' 0 2 ∨ v.extractLsb' 3 2 = 3)) := by
  have hr : l.running = true := (running_iff l).2 hl
  obtain ⟨h12, h13, h14⟩ := val_live k
  simp only [LaneState.refusesByte, hr, recordMode3, structuralByte, liveRefused, Profile.polarityMode, h12, h13, h14,
    Bool.true_and, Bool.or_eq_true, Bool.and_eq_true, decide_eq_true_eq, beq_iff_eq, bne_iff_ne, and_or_left]
  exact iff_of_eq (by ac_rfl)

/-- Settles O37: a running lane refuses the structural bytes and live bytes out of range, and stores any other alone. -/
theorem pdataWriteRunningLane : Obligations.PdataWriteRunningLane := by
  unfold Obligations.PdataWriteRunningLane
  intro s v hup hrun
  refine ⟨fun hbad => pdataWrite_refused hup ((refusesByte_running hrun _ _).2 hbad), fun hgood => ?_⟩
  have hacc : (s.lane s.lsel).refusesByte s.pidx.val v = false :=
    Bool.eq_false_iff.2 fun h => hgood ((refusesByte_running hrun _ _).1 h)
  obtain ⟨hk, -⟩ := running_accepts hacc ((running_iff _).2 hrun)
  obtain ⟨-, -, h14⟩ := val_live s.pidx
  rw [pdataWrite_accepted hup hacc, storeByte_live _ _ _ hk]
  simp only [Machine.Profile.setByte, storedByte, h14]

end Sys2Proof

namespace Sys2Proof

open Sys2Proof.Machine

/-! ### A property that the pieces of a lane's happening keep, the happening keeps -/

/-- `m` holds no more than `l`: no more history than R2 allows, and no more staged records. -/
structure HoldsNoMore (l m : LaneState) : Prop where
  hist : m.intake.hist.length ≤ max 33 l.intake.hist.length
  staging : m.check.staging.length ≤ l.check.staging.length

/-- `P` is kept by the pieces that the happenings of lane `i` are made of. -/
structure KeptByLanePieces (i : LaneId) (P : State → Prop) : Prop where
  setLane : ∀ s l, HoldsNoMore (s.lane i) l → P s → P (s.setLane i l)
  post : ∀ s c, c.code ≤ 9 → P s → P (s.post c (laneSource i))
  takeActive : ∀ s, P s → P (s.takeActive i)
  deliver : ∀ s q r, P s → P (s.deliver i q r)
  stageWord : ∀ s x, P s → P (s.stageWord i x)
  offerRecord : ∀ s mode r, P s → P (s.offerRecord mode r)

theorem HoldsNoMore.same {l m : LaneState} (hi : m.intake.hist.length = l.intake.hist.length)
    (hc : m.check.staging = l.check.staging) : HoldsNoMore l m :=
  ⟨hi ▸ le_max_right _ _, le_of_eq (by rw [hc])⟩

/-- A lane whose staging list is empty. -/
theorem HoldsNoMore.empty {l m : LaneState} (hi : m.intake.hist.length ≤ l.intake.hist.length)
    (hc : m.check.staging = []) : HoldsNoMore l m :=
  ⟨hi.trans (le_max_right _ _), by simp [hc]⟩

/-- The causes that the cycle tracker posts are lane causes. -/
theorem Tracker.counter_cause (p : Profile) (v : Nat) (t : Tracker) (c : Cause) (h : (t.counter p v).2 = some c) :
    c = .cycleLocked ∨ c = .cycleLost := by
  unfold Tracker.counter at h
  cases hs : t.state <;> simp only [hs] at h <;> (repeat' split at h) <;> simp_all

namespace KeptByLanePieces

variable {i : LaneId} {P : State → Prop} (hP : KeptByLanePieces i P) {s : State} (hs : P s)
include hP hs

theorem mapLane (f : LaneState → LaneState) (hf : ∀ l, HoldsNoMore l (f l)) : P (s.mapLane i f) :=
  hP.setLane s _ (hf _) hs

/-! #### The partners of a word (R73) -/

theorem compareCheck (v : BitVec 16) : P (s.compareCheck i v) := by
  unfold State.compareCheck
  dsimp only
  split
  · split
    · exact hP.setLane s _ (.empty le_rfl rfl) hs
    · exact State.releaseAll_keeps P i hP.deliver _ _ (hP.setLane s _ (.empty le_rfl rfl) hs)
  · exact hP.post _ _ (by decide) (hP.setLane s _ (.empty le_rfl rfl) hs)

theorem checkWordNotice (x : Nat) (v : BitVec 16) : P (s.checkWordNotice i x v) := by
  unfold State.checkWordNotice
  dsimp only
  split
  · exact hs
  · split
    · exact hP.setLane s _ (.same rfl rfl) hs
    · split
      · exact hP.compareCheck hs v
      · exact hs

theorem trackWord (x : Nat) (v : BitVec 16) : P (s.trackWord i x v) := by
  unfold State.trackWord
  dsimp only
  split
  · split
    · exact hP.setLane s _ (.same rfl rfl) hs
    · next c hc =>
      refine hP.post _ c ?_ (hP.setLane s _ (.same rfl rfl) hs)
      rcases Tracker.counter_cause _ _ _ c hc with e | e <;> rw [e] <;> decide
  · exact hs

theorem evaluateEntry (x : Nat) (v : BitVec 16) (e : SelEntry) : P (s.evaluateEntry i x v e) := by
  unfold State.evaluateEntry
  dsimp only
  split
  · exact hs
  · exact hP.setLane s _ (.same rfl rfl) hs
  · split
    · exact hP.stageWord s _ hs
    · exact hP.deliver s _ _ hs

theorem selectWord (x : Nat) (v : BitVec 16) : P (s.selectWord i x v) := by
  unfold State.selectWord
  dsimp only
  split
  · split
    · exact hs
    · exact State.walk_keeps P i x v (fun t ht => hP.mapLane ht _ fun _ => .same rfl rfl)
        (fun t e ht => hP.evaluateEntry ht x v e) _ s hs
  · exact hs

theorem wordNotice (x : Nat) (v : BitVec 16) : P (s.wordNotice i x v) :=
  hP.selectWord (hP.checkWordNotice (hP.trackWord hs x v) x v) x v

theorem syncNotices (w : List Bool) : P (s.syncNotices i w) :=
  State.foldl_keeps P _ (fun _ _ ht => hP.wordNotice ht _ _) _ s hs

/-! #### Frames and search (R35 to R40) -/

theorem startFrame (kind : StartKind) (slip : StartSlip) (w : List Bool) : P (s.startFrame i kind slip w) := by
  refine hP.syncNotices (hP.setLane s _ ?_ hs) w
  exact .empty le_rfl rfl

theorem endFrame (e : EndClass) : P (s.endFrame i e) := by
  unfold State.endFrame
  dsimp only
  split
  · exact hs
  · exact hP.offerRecord _ _ _ (hP.setLane s _ (.empty le_rfl rfl) hs)

theorem searchNotice : P (s.searchNotice i) := hP.takeActive _ (hP.mapLane hs _ fun _ => .same rfl rfl)

theorem enterSearch : P (s.enterSearch i) := hP.searchNotice (hP.mapLane hs _ fun _ => .same rfl rfl)

theorem failToSearch : P (s.failToSearch i) :=
  hP.searchNotice (hP.takeActive _ (hP.mapLane hs _ fun _ => .same rfl rfl))

theorem abandon : P (s.abandon i) := hP.mapLane (hP.endFrame hs _) _ fun _ => .same rfl rfl

theorem loseLock : P (s.loseLock i) := hP.post _ _ (by decide) (hP.enterSearch (hP.abandon hs))

theorem returnToSearch : P (s.returnToSearch i) := by
  unfold State.returnToSearch
  split
  · exact hs
  · exact hs
  · exact hP.enterSearch hs
  · exact hP.loseLock hs
  · exact hP.loseLock hs

theorem expireSilence : P (s.expireSilence i) :=
  hP.returnToSearch (hP.post _ _ (by decide) (hP.mapLane hs _ fun _ => .same rfl rfl))

/-! #### Bits (R22 to R33) -/

theorem searchBit : P (s.searchBit i) := by
  unfold State.searchBit State.searchMatch
  dsimp only
  split
  · split
    · exact hs
    · split
      · exact hP.setLane s _ (.same rfl rfl) hs
      · exact hP.post _ _ (by decide) (hP.setLane s _ (.same (by simp [Intake.setPolarity]) rfl) hs)
  · exact hs

theorem evaluateCheck : P (s.evaluateCheck i) := by
  unfold State.evaluateCheck State.gainLock
  dsimp only
  split
  · split
    · refine hP.post _ _ (by decide) (hP.startFrame (hP.takeActive _ (hP.mapLane hs _ ?_)) _ _ _)
      exact fun _ => .same rfl rfl
    · exact hP.takeActive _ (hP.mapLane hs _ fun _ => .same rfl rfl)
  · exact hP.failToSearch hs

theorem acceptSync (c : StartSlip) (w : List Bool) : P (s.acceptSync i c w) := by
  refine hP.startFrame (hP.takeActive _ (hP.mapLane (hP.endFrame (hP.mapLane hs _ ?_) _) _ ?_)) _ _ _
  · intro l
    cases c <;> exact .same rfl rfl
  · exact fun _ => .same rfl rfl

theorem rejectSync (w : List Bool) : P (s.rejectSync i w) := by
  have hend := hP.endFrame (hP.mapLane hs (fun l => { l with engine := { l.engine with late := none } })
    fun _ => .same rfl rfl) .unconfirmed
  unfold State.rejectSync
  dsimp only
  split
  · have hcoast := hP.startFrame (hP.takeActive _ (hP.mapLane hend (fun l => { l with engine := { l.engine with
      lock := .coast, bad := (s.lane i).engine.badNext } }) fun _ => .same rfl rfl)) .coast .none w
    split
    · exact hP.post _ _ (by decide) hcoast
    · exact hcoast
  · exact hP.post _ _ (by decide) (hP.failToSearch hend)

theorem evaluateLock : P (s.evaluateLock i) := by
  unfold State.evaluateLock
  dsimp only
  split
  · exact hP.acceptSync hs _ _
  · split
    · split
      · exact hP.acceptSync hs _ _
      · exact hP.mapLane hs _ fun _ => .same rfl rfl
    · exact hP.rejectSync hs _

theorem completeLate (tol : Nat) : P (s.completeLate i tol) := by
  unfold State.completeLate
  dsimp only
  split
  · exact hP.acceptSync hs _ _
  · exact hP.rejectSync hs _

theorem sliceWord : P (s.sliceWord i) := by
  unfold State.sliceWord
  dsimp only
  split
  · exact hP.wordNotice hs _ _
  · exact hs

theorem advanceBit : P (s.advanceBit i) := hP.mapLane hs _ fun _ => .same rfl rfl

theorem checkBit : P (s.checkBit i) := by
  unfold State.checkBit
  dsimp only
  split
  · exact hP.evaluateCheck (hP.advanceBit hs)
  · exact hP.advanceBit hs

theorem lockBit : P (s.lockBit i) := by
  unfold State.lockBit
  dsimp only
  split
  · exact hP.completeLate (hP.advanceBit hs) _
  · split
    · exact hP.evaluateLock (hP.advanceBit hs)
    · exact hP.sliceWord (hP.advanceBit hs)

theorem engineBit : P (s.engineBit i) := by
  unfold State.engineBit
  split
  · exact hs
  · exact hP.searchBit hs
  · exact hP.checkBit hs
  · exact hP.lockBit hs
  · exact hP.lockBit hs

theorem takeBit (b : Bool) : P (takeBit i b s) := by
  unfold Machine.takeBit
  split
  · refine hP.engineBit (hP.mapLane hs _ fun l => ⟨?_, le_rfl⟩)
    rw [push_hist_length]
    omega
  · exact hs

/-! #### Lane commands (R14 to R17) -/

theorem startLane : P (startLane i s).2 := by
  unfold Machine.startLane
  split
  · exact hs
  · split
    · exact hP.searchNotice (hP.mapLane hs _ fun _ => .empty (Nat.zero_le _) rfl)
    · exact hs

theorem stopLane : P (stopLane i s).2 := by
  unfold Machine.stopLane
  split
  · exact hP.takeActive _ (hP.mapLane (hP.abandon hs) _ fun _ => .empty (Nat.zero_le _) rfl)
  · exact hP.takeActive s hs

theorem resyncLane : P (resyncLane i s).2 := by
  unfold Machine.resyncLane
  split
  · exact hP.returnToSearch hs
  · exact hs

end KeptByLanePieces

/-! ### Capacities (R2, R83, R92, R134) -/

/-- The history and the staging list of a lane within their capacities. -/
def LaneFits (l : LaneState) : Prop := l.intake.hist.length ≤ 33 ∧ l.check.staging.length ≤ 32

theorem LaneFits.of_holdsNoMore {l m : LaneState} (h : LaneFits l) (k : HoldsNoMore l m) : LaneFits m :=
  ⟨k.hist.trans (max_le le_rfl h.1), k.staging.trans h.2⟩

namespace CapacitiesOk

variable {s t : State}

theorem fits (h : CapacitiesOk s) (i : LaneId) : LaneFits (s.lane i) := ⟨h.history i, h.staging i⟩

theorem of_fits (hl : ∀ i, LaneFits (t.lane i)) (hr : t.records.list.length ≤ 64) (hm : t.tables.ram.wf = true) :
    CapacitiesOk t :=
  ⟨fun i => (hl i).1, fun i => (hl i).2, hr, hm⟩

theorem of_sameStores (h : CapacitiesOk s) (e : SameStores s t) : CapacitiesOk t :=
  of_fits (fun i => e.lane i ▸ h.fits i) (e.records ▸ h.records) (e.ram ▸ h.store)

theorem of_lanes (h : CapacitiesOk s) (e : t.lanes = s.lanes) (hr : t.records.list.length ≤ 64)
    (hm : t.tables.ram.wf = true) : CapacitiesOk t :=
  of_fits (fun i => (show t.lane i = s.lane i by simp [State.lane, e]) ▸ h.fits i) hr hm

theorem setLane (h : CapacitiesOk s) (i : LaneId) (l : LaneState) (hl : LaneFits l) :
    CapacitiesOk (s.setLane i l) := by
  refine of_fits (fun j => ?_) h.records h.store
  rw [State.lane_setLane]
  split
  · exact hl
  · exact h.fits j

theorem map (h : CapacitiesOk s) (f : LaneState → LaneState) (hf : ∀ l, HoldsNoMore l (f l))
    (e : t.lanes = s.lanes.map f) (hr : t.records.list.length ≤ 64) (hm : t.tables.ram.wf = true) :
    CapacitiesOk t := by
  refine of_fits (fun j => ?_) hr hm
  rw [show t.lane j = f (s.lane j) by simp [State.lane, e]]
  exact (h.fits j).of_holdsNoMore (hf _)

theorem takeActive (h : CapacitiesOk s) (i : LaneId) : CapacitiesOk (s.takeActive i) := by
  have hlane : CapacitiesOk (s.mapLane i fun l => { l with bankInUse := s.tables.active }) :=
    h.setLane i _ (h.fits i)
  rcases s.takeActive_cases i with ⟨-, e⟩ | ⟨-, -, e⟩ | ⟨-, -, e⟩ <;> rw [e]
  · exact h
  · exact hlane
  · exact hlane.of_sameStores (.thenPost (by exact ⟨rfl, rfl, rfl⟩) _ _)

theorem deliver (h : CapacitiesOk s) (i : LaneId) (q : QueueId) (r : WordRecord) : CapacitiesOk (s.deliver i q r) := by
  have h' := h.of_sameStores (SameStores.offerWord s q r)
  exact h'.setLane i _ (h'.fits i)

/-- A record joins the staging list only below 32 (R83). -/
theorem stageWord (h : CapacitiesOk s) (i : LaneId) (x : Staged) : CapacitiesOk (s.stageWord i x) := by
  obtain ⟨hh, hst⟩ := h.fits i
  unfold State.stageWord
  dsimp only
  split
  · next hlt =>
    refine h.setLane i _ ⟨hh, ?_⟩
    simp only [List.length_append, List.length_singleton]
    exact hlt
  · have hlane : CapacitiesOk (s.mapLane i fun l => { l with check := { (s.lane i).check with
        discarded := satInc (s.lane i).check.discarded, overflow := true } }) := h.setLane i _ ⟨hh, hst⟩
    split
    · exact hlane
    · exact hlane.of_sameStores (SameStores.post _ _ _)

/-- A record is stored only below 64 (R134). -/
theorem offerRecord (h : CapacitiesOk s) (mode : BitVec 2) (r : FrameRecord) : CapacitiesOk (s.offerRecord mode r) := by
  rcases s.offerRecord_cases mode r with ⟨-, e⟩ | ⟨-, hlt, e⟩ | ⟨-, -, e⟩ <;> rw [e]
  · exact h
  · refine h.of_lanes rfl ?_ h.store
    simp only [List.length_append, List.length_singleton]
    omega
  · exact h.of_sameStores (.thenPost (by exact ⟨rfl, rfl, rfl⟩) _ _)

theorem keptByLanePieces (i : LaneId) : KeptByLanePieces i CapacitiesOk where
  setLane _ l hl h := h.setLane i l ((h.fits i).of_holdsNoMore hl)
  post _ _ _ h := h.of_sameStores (SameStores.post _ _ _)
  takeActive _ h := h.takeActive i
  deliver _ q r h := h.deliver i q r
  stageWord _ x h := h.stageWord i x
  offerRecord _ mode r h := h.offerRecord mode r

theorem swapTables (h : CapacitiesOk s) : CapacitiesOk (swapTables s).2 := by
  have hmap : CapacitiesOk { s with
      tables.active := s.tables.edit, lanes := s.lanes.map (LaneState.swapTo s.tables.edit) } := by
    refine h.map _ (fun l => ?_) rfl h.records h.store
    unfold LaneState.swapTo
    split <;> exact .same rfl rfl
  unfold Machine.swapTables
  dsimp only
  split
  · exact h
  · split
    · exact hmap.of_sameStores (SameStores.post _ _ _)
    · exact hmap.of_sameStores ⟨rfl, rfl, rfl⟩

theorem countTick (h : CapacitiesOk s) : CapacitiesOk s.countTick := by
  refine h.map LaneState.countSilence (fun l => ?_) rfl h.records h.store
  rw [LaneState.countSilence_eq]
  exact .same rfl rfl

theorem softResetAll (h : CapacitiesOk s) : CapacitiesOk (softResetAll s).2 :=
  h.map (LaneState.softReset s.tables.active) (fun _ => .empty (Nat.zero_le _) rfl) rfl (Nat.zero_le 64) h.store

theorem copyOne (h : CapacitiesOk s) : CapacitiesOk (copyOne s) := by
  refine h.of_lanes (lanes_copyOne s) ?_ ?_ <;> unfold Machine.copyOne <;> dsimp only <;> split
  · split
    · rw [State.post_records]; exact h.records
    · exact h.records
  · exact h.records
  · split
    · rw [State.post_tables]; exact Memory.writeRecord_wf _ _ _ _ h.store
    · exact Memory.writeRecord_wf _ _ _ _ h.store
  · exact h.store

theorem writeTwdata (h : CapacitiesOk s) (v : Byte) : CapacitiesOk (writeTwdata v s) := by
  unfold Machine.writeTwdata State.commitRecord
  dsimp only
  split
  · split
    · exact h.of_sameStores (.thenPost (by exact ⟨rfl, rfl, rfl⟩) _ _)
    · exact h.of_lanes rfl h.records (Memory.writeRecord_wf _ _ _ _ h.store)
  · exact h.of_sameStores ⟨rfl, rfl, rfl⟩

theorem readRdata (h : CapacitiesOk s) (k : Fin 16) : CapacitiesOk (readRdata k s).2 := by
  have hr := h.records
  unfold Machine.readRdata
  split
  · split
    · exact h.of_lanes rfl hr h.store
    · next e =>
      rw [e, List.length_cons] at hr
      exact h.of_lanes rfl (Nat.le_of_succ_le hr) h.store
  · exact h

theorem writePdata (h : CapacitiesOk s) (v : Byte) : CapacitiesOk (writePdata v s) := by
  unfold Machine.writePdata
  split
  · exact h.of_sameStores (SameStores.trans (SameStores.refuseConfig s) ⟨rfl, rfl, rfl⟩)
  · have hhist : ((s.lane s.lsel).intake.storeByte s.pidx v).hist = (s.lane s.lsel).intake.hist := by
      unfold Intake.storeByte
      split <;> rfl
    have hfits : LaneFits { s.lane s.lsel with intake := (s.lane s.lsel).intake.storeByte s.pidx v } :=
      ⟨by rw [hhist]; exact h.history s.lsel, h.staging s.lsel⟩
    exact (h.setLane s.lsel _ hfits).of_sameStores ⟨rfl, rfl, rfl⟩

theorem keptByOperations : KeptByOperations CapacitiesOk where
  elsewhere _ _ e h := h.of_sameStores e
  takeBit i b _ h := (keptByLanePieces i).takeBit h b
  countTick _ h := h.countTick
  expireSilence _ i h := (keptByLanePieces i).expireSilence h
  startLane i _ h := (keptByLanePieces i).startLane h
  stopLane i _ h := (keptByLanePieces i).stopLane h
  resyncLane i _ h := (keptByLanePieces i).resyncLane h
  swapTables _ h := h.swapTables
  copyOne _ h := h.copyOne
  flushRecords _ h := h.of_lanes rfl (Nat.zero_le 64) h.store
  softResetAll _ h := h.softResetAll
  readLslip s h := h.setLane s.lsel _ (h.fits s.lsel)
  readRdata k _ h := h.readRdata k
  writeTwdata v _ h := h.writeTwdata v

theorem resetAsserted (s : State) : CapacitiesOk (resetAsserted s) := by
  refine of_fits (fun i => ?_) (Nat.zero_le 64) rfl
  rw [lane_resetAsserted]
  exact ⟨Nat.zero_le 33, Nat.zero_le 32⟩

end CapacitiesOk

/-- Settles O55: every operation keeps the capacities, and hardware reset meets them. -/
theorem capacitiesHold : Obligations.CapacitiesHold := by
  unfold Obligations.CapacitiesHold
  intro s t h hstep
  exact CapacitiesOk.keptByOperations.step (fun v _ k => k.writePdata v) (fun s _ => CapacitiesOk.resetAsserted s) h
    hstep

/-! ### Profiles change by the host alone (R8, R13) -/

/-- Every lane of `t` has the profile and the holding place of `s`. -/
def SameProfiles (s t : State) : Prop :=
  ∀ i : LaneId, (t.lane i).intake.profile = (s.lane i).intake.profile ∧
    (t.lane i).intake.holding = (s.lane i).intake.holding

namespace SameProfiles

variable {s t u : State}

theorem of_lanes (h : SameProfiles s t) (e : u.lanes = t.lanes) : SameProfiles s u := by
  intro j
  rw [show u.lane j = t.lane j by simp [State.lane, e]]
  exact h j

theorem of_laneFrame {i : LaneId} (h : SameProfiles s t) (k : LaneFrame i t u) : SameProfiles s u := by
  intro j
  by_cases hj : j = i
  · subst hj; exact ⟨k.profile.trans (h j).1, k.holding.trans (h j).2⟩
  · rw [k.others j hj]; exact h j

theorem map (h : SameProfiles s t) (f : LaneState → LaneState)
    (hf : ∀ l, (f l).intake.profile = l.intake.profile ∧ (f l).intake.holding = l.intake.holding)
    (e : u.lanes = t.lanes.map f) : SameProfiles s u := by
  intro j
  rw [show u.lane j = f (t.lane j) by simp [State.lane, e], (hf _).1, (hf _).2]
  exact h j

theorem swapTables (h : SameProfiles s t) : SameProfiles s (swapTables t).2 := by
  have hf : ∀ l : LaneState, (l.swapTo t.tables.edit).intake.profile = l.intake.profile ∧
      (l.swapTo t.tables.edit).intake.holding = l.intake.holding := by
    intro l
    unfold LaneState.swapTo
    split <;> exact ⟨rfl, rfl⟩
  unfold Machine.swapTables
  dsimp only
  split
  · exact h
  · split
    · exact h.map _ hf (State.post_lanes _ _ _)
    · exact h.map _ hf rfl

/-- No operation but a PDATA write and hardware reset reaches a profile. -/
theorem keptByOperations (s : State) : KeptByOperations (SameProfiles s) where
  elsewhere _ _ e h := h.of_lanes e.lanes
  takeBit i b t h := h.of_laneFrame (LaneFrame.takeBit i t b)
  countTick t h := h.map LaneState.countSilence (fun l => by rw [LaneState.countSilence_eq]; exact ⟨rfl, rfl⟩) rfl
  expireSilence t i h := h.of_laneFrame (LaneFrame.expireSilence i t)
  startLane i t h := h.of_laneFrame (LaneFrame.startLane i t)
  stopLane i t h := h.of_laneFrame (LaneFrame.stopLane i t)
  resyncLane i t h := h.of_laneFrame (LaneFrame.resyncLane i t)
  swapTables _ h := h.swapTables
  copyOne t h := h.of_lanes (lanes_copyOne t)
  flushRecords _ h := h.of_lanes rfl
  softResetAll t h := h.map (LaneState.softReset t.tables.active) (fun _ => ⟨rfl, rfl⟩) rfl
  readLslip t h := h.of_laneFrame (LaneFrame.setLane t.lsel t _ rfl rfl)
  readRdata k t h := h.of_lanes (lanes_readRdata k t)
  writeTwdata v t h := h.of_lanes (lanes_writeTwdata v t)

end SameProfiles

/-- A PDATA write reaches the lane that LSEL names alone. -/
theorem lane_writePdata_ne (v : Byte) (s : State) (i : LaneId) (h : i ≠ s.lsel) :
    (writePdata v s).lane i = s.lane i := by
  unfold writePdata
  split
  · exact State.lane_post s i _ _
  · exact State.lane_mapLane_ne s s.lsel i
      (fun l => { l with intake := l.intake.storeByte s.pidx v }) h

theorem writesPdata_lane {c : Instr} {s t : State} {i : LaneId} (hw : writesPdata c) (h : exec c s = .next t)
    (hi : i ≠ s.lsel) : t.lane i = s.lane i := by
  obtain ⟨v, hv⟩ := hw
  have hact : act (writePdata v) s = .next t := by
    rcases hv with e | e <;> rw [← h, e] <;> rfl
  unfold act at hact
  split at hact <;> cases hact
  · rfl
  · exact lane_writePdata_ne v s i hi

/-- Settles O60: no other command reaches a profile, and a PDATA write reaches the one of LSEL's lane. -/
theorem profilesChangeByHostOnly : Obligations.ProfilesChangeByHostOnly := by
  unfold Obligations.ProfilesChangeByHostOnly
  intro c s t i h hchanged
  by_cases hreset : c = .hardwareReset
  · exact .inl hreset
  refine .inr ?_
  by_cases hw : writesPdata c
  · refine ⟨by_contra fun hi => ?_, hw⟩
    rw [writesPdata_lane hw h hi] at hchanged
    simp at hchanged
  · obtain ⟨hp, hh⟩ := (SameProfiles.keptByOperations s).exec c (fun k => absurd k hw) (fun k => absurd k hreset)
      (fun _ => ⟨rfl, rfl⟩) h i
    exact absurd hchanged (by simp [hp, hh])

end Sys2Proof

namespace Sys2Proof

open Sys2Proof.Machine

/-! ### A bit taken, in the words of the statements (R1, R2, R24) -/

theorem push_eq (x : Intake) (b : Bool) : x.push b = takenIntake x b := by
  unfold Intake.push takenIntake correct
  cases x.polarity <;> rfl

theorem takeBit_off {s : State} {i : LaneId} (b : Bool) (hl : (s.lane i).engine.lock = .off) : takeBit i b s = s := by
  simp [takeBit, LaneState.running, hl]

/-- A running lane takes the bit, and then its engine works on it. -/
theorem takeBit_running {s : State} {i : LaneId} (b : Bool) (hl : (s.lane i).engine.lock ≠ .off) :
    takeBit i b s =
      (s.setLane i { s.lane i with intake := takenIntake (s.lane i).intake b }).engineBit i := by
  rw [takeBit, if_pos ((running_iff _).2 hl), ← push_eq]
  rfl

/-- The position that the engine advances after the bit has been taken (R24). -/
theorem advanceBit_taken (s : State) (i : LaneId) (b : Bool) :
    (s.setLane i { s.lane i with intake := takenIntake (s.lane i).intake b }).advanceBit i =
      s.setLane i (steppedLane (s.lane i) b) := by
  rw [State.advanceBit, State.mapLane, State.lane_setLane_self, State.setLane_setLane]
  rfl

/-! ### Windows (R2, R21) -/

/-- The mismatches of a window, counted position by position. -/
theorem countMismatches_eq (p m : BitVec 32) (k : Nat) (w : List Bool) :
    countMismatches p m k w = ((List.range w.length).filter fun j =>
      m.getLsbD (k + j) && (w[j]?.getD false != p.getLsbD (k + j))).length := by
  induction w generalizing k with
  | nil => rfl
  | cons b w ih =>
    rw [countMismatches, ih (k + 1), List.length_cons, List.range_succ_eq_map, List.filter_cons, List.filter_map]
    have hshift : ∀ j, k + 1 + j = k + j.succ := fun j => by omega
    simp only [Function.comp_def, List.getElem?_cons_zero, List.getElem?_cons_succ, Option.getD_some, Nat.add_zero,
      Nat.succ_eq_add_one, hshift]
    split <;> simp [Nat.add_comm]

/-- The mismatches of the last `n` bits of a history, each bit read by `f`. -/
theorem countMismatches_window (p m : BitVec 32) (hist : List HistBit) (f : HistBit → Bool) (n : Nat)
    (hn : n ≤ hist.length) :
    countMismatches p m 0 ((hist.take n).map f) = ((List.range n).filter fun j =>
      m.getLsbD j && (((hist[j]?).map f).getD false != p.getLsbD j)).length := by
  rw [countMismatches_eq, List.length_map, List.length_take, Nat.min_eq_left hn]
  congr 1
  refine List.filter_congr fun j hj => ?_
  rw [List.mem_range] at hj
  rw [List.getElem?_map, List.getElem?_take_of_lt hj, Nat.zero_add]

/-- The search test's mismatches with the pattern (R21, R22). -/
theorem mismatches_received (x : Intake) (h : x.profile.syncLen ≤ x.hist.length) :
    x.profile.mismatches (x.received x.profile.syncLen) = mismatchCount x.profile (receivedBit x) :=
  countMismatches_window _ _ _ _ _ h

/-- The search test's mismatches with the complement; the mask has no bit above the pattern's 32. -/
theorem complementMismatches_received (x : Intake) (h : x.profile.syncLen ≤ x.hist.length) :
    x.profile.complementMismatches (x.received x.profile.syncLen) = complementCount x.profile (receivedBit x) := by
  refine (countMismatches_window _ _ _ _ _ h).trans (congrArg List.length (List.filter_congr fun k _ => ?_))
  by_cases hk : k < 32
  · rw [BitVec.getLsbD_not, receivedBit]
    cases (x.hist[k]?.map HistBit.recv).getD false <;> simp [hk]
  · rw [BitVec.getLsbD_of_ge _ _ (Nat.le_of_not_lt hk), Bool.false_and, Bool.false_and]

/-- A search test that no polarity of the mode passes finds nothing (R22). -/
theorem searchTest_none (p : Profile) (w : List Bool) (hplain : p.polarityMode ≠ 1 → p.searchTol < p.mismatches w)
    (hcompl : p.polarityMode ≠ 0 → p.searchTol < p.complementMismatches w) : p.searchTest w = none := by
  unfold Profile.searchTest
  dsimp only
  split
  · next h0 =>
    have hm : p.polarityMode ≠ 1 := fun e => by simp [e] at h0
    rw [if_neg (by simpa using hplain hm)]
  · next h1 =>
    have hm : p.polarityMode ≠ 0 := fun e => by simp [e] at h1
    rw [if_neg (by simpa using hcompl hm)]
  · next h2 =>
    have hm : p.polarityMode ≠ 1 ∧ p.polarityMode ≠ 0 := ⟨fun e => by simp [e] at h2, fun e => by simp [e] at h2⟩
    rw [if_neg (by simpa using hplain hm.1), if_neg (by simpa using hcompl hm.2)]
  · rfl

/-! ### Bits without an event (R22, R24, R33) -/

section WithoutEvent

variable {s : State} {i : LaneId}

/-- A search test without a window, or without a match, changes nothing (R22). -/
theorem searchBit_idle (h : (s.lane i).intake.hist.length < (s.lane i).intake.profile.syncLen ∨
      (((s.lane i).intake.profile.polarityMode ≠ 1 →
          (s.lane i).intake.profile.searchTol <
            mismatchCount (s.lane i).intake.profile (receivedBit (s.lane i).intake)) ∧
       ((s.lane i).intake.profile.polarityMode ≠ 0 →
          (s.lane i).intake.profile.searchTol <
            complementCount (s.lane i).intake.profile (receivedBit (s.lane i).intake)))) :
    s.searchBit i = s := by
  unfold State.searchBit
  dsimp only
  split
  · next hw =>
    obtain ⟨hplain, hcompl⟩ := h.resolve_left (Nat.not_lt.2 hw)
    rw [← mismatches_received _ hw] at hplain
    rw [← complementMismatches_received _ hw] at hcompl
    rw [searchTest_none _ _ hplain hcompl]
  · rfl

/-- A bit that is the last of no data word completes none (R33). -/
theorem completedWord_none {l : LaneState} (hw : 1 ≤ l.intake.profile.wordLen)
    (h : ∀ k, l.intake.profile.syncWords ≤ k → k < l.intake.profile.frameWords →
      l.engine.bitPos ≠ k * l.intake.profile.wordLen + l.intake.profile.wordLen - 1) : l.completedWord = none := by
  unfold LaneState.completedWord
  dsimp only
  refine if_neg fun ⟨hmod, hlo, hhi⟩ => h _ hlo hhi ?_
  obtain ⟨q, hq⟩ := Nat.dvd_of_mod_eq_zero hmod
  have hpos : 1 ≤ q := Nat.pos_of_ne_zero fun e => by simp [e] at hq
  have hx : (l.engine.bitPos + 1) / l.intake.profile.wordLen - 1 = q - 1 := by
    rw [hq, Nat.mul_div_cancel_left q hw]
  have hmul : (q - 1) * l.intake.profile.wordLen + l.intake.profile.wordLen = l.engine.bitPos + 1 := by
    rw [← Nat.succ_mul, Nat.succ_eq_add_one, Nat.sub_add_cancel hpos, Nat.mul_comm, hq]
  rw [hx]
  omega

theorem sliceWord_none (h : (s.lane i).completedWord = none) : s.sliceWord i = s := by
  unfold State.sliceWord
  dsimp only
  rw [h]
  split
  · next e => cases e
  · rfl

/-- A bit in CHECK that ends no sync advances the position alone (R24). -/
theorem takeBit_check (b : Bool) (hl : (s.lane i).engine.lock = .check)
    (hend : (steppedLane (s.lane i) b).engine.bitPos + 1 ≠ (s.lane i).intake.profile.syncLen) :
    takeBit i b s = s.setLane i (steppedLane (s.lane i) b) := by
  have hsync : (steppedLane (s.lane i) b).atSyncEnd = false :=
    Bool.eq_false_iff.2 fun h => hend ((atSyncEnd_iff _).1 h)
  rw [takeBit_running b (by simp [hl])]
  simp only [State.engineBit, State.lane_setLane_self, hl, State.checkBit, advanceBit_taken, hsync, Bool.false_eq_true,
    if_false]

/-- A bit in LOCK or COAST that completes no late test, no sync and no data word advances the position alone. -/
theorem takeBit_lock (b : Bool) (hl : (s.lane i).engine.lock = .lock ∨ (s.lane i).engine.lock = .coast)
    (hlate : (s.lane i).engine.late = none)
    (hend : (steppedLane (s.lane i) b).engine.bitPos + 1 ≠ (s.lane i).intake.profile.syncLen)
    (hword : (steppedLane (s.lane i) b).completedWord = none) :
    takeBit i b s = s.setLane i (steppedLane (s.lane i) b) := by
  have hsync : (steppedLane (s.lane i) b).atSyncEnd = false :=
    Bool.eq_false_iff.2 fun h => hend ((atSyncEnd_iff _).1 h)
  have hslice : (s.setLane i (steppedLane (s.lane i) b)).sliceWord i = s.setLane i (steppedLane (s.lane i) b) :=
    sliceWord_none (by rw [State.lane_setLane_self]; exact hword)
  rw [takeBit_running b (by rcases hl with e | e <;> simp [e])]
  rcases hl with e | e <;>
  simp only [State.engineBit, State.lane_setLane_self, e, State.lockBit, hlate, advanceBit_taken, hsync,
    Bool.false_eq_true, if_false, hslice]

end WithoutEvent

/-- Settles O4: the bits that end no search, no sync and no data word, by the lane's state. -/
theorem takeBitWithoutEvent : Obligations.TakeBitWithoutEvent := by
  unfold Obligations.TakeBitWithoutEvent
  intro s i b hup hstarted
  have hexec : exec (.takeBit i b) s = .next { takeBit i b s with dataOut := none } := act_up _ s hup
  refine ⟨fun hl => ?_, fun hl hs => ?_, fun hl hend => ?_, fun hl hlate hend hword => ?_⟩
  · rw [hexec, takeBit_off b hl]
  · rw [hexec, takeBit_running b (by simp [hl]), State.engineBit]
    simp only [State.lane_setLane_self, hl]
    rw [searchBit_idle (by rw [State.lane_setLane_self]; exact hs)]
  · rw [hexec, takeBit_check b hl hend]
  · have hp := (hstarted i).startable (by rcases hl with e | e <;> simp [e])
    have hw : 1 ≤ (s.lane i).intake.profile.wordLen := by have := startable_wordLen hp; omega
    rw [hexec, takeBit_lock b hl hlate hend (completedWord_none hw hword)]

end Sys2Proof

namespace Sys2Proof

open Sys2Proof.Machine

/-! ### A property of every lane -/

/-- `P` speaks of one lane, and whatever reaches a lane keeps it, but for PDATA writes and hardware reset. -/
structure KeptInEveryLane (P : LaneState → Prop) : Prop where
  takeBit : ∀ s i b, P (s.lane i) → P ((takeBit i b s).lane i)
  countSilence : ∀ l, P l → P l.countSilence
  expireSilence : ∀ (s : State) i, P (s.lane i) → P ((s.expireSilence i).lane i)
  startLane : ∀ s i, P (s.lane i) → P ((startLane i s).2.lane i)
  stopLane : ∀ s i, P (s.lane i) → P ((stopLane i s).2.lane i)
  resyncLane : ∀ s i, P (s.lane i) → P ((resyncLane i s).2.lane i)
  swapTo : ∀ l b, P l → P (l.swapTo b)
  softReset : ∀ l b, P l → P (l.softReset b)
  clearSlip : ∀ l, P l → P { l with intake := { l.intake with slip := 0 } }

namespace KeptInEveryLane

variable {P : LaneState → Prop} {s t : State}

theorem of_lanes (h : ∀ i, P (s.lane i)) (e : t.lanes = s.lanes) : ∀ i, P (t.lane i) := by
  intro j
  rw [show t.lane j = s.lane j by simp [State.lane, e]]
  exact h j

theorem of_laneFrame (h : ∀ i, P (s.lane i)) {i : LaneId} (k : LaneFrame i s t) (hi : P (t.lane i)) :
    ∀ i, P (t.lane i) := by
  intro j
  by_cases hj : j = i
  · rw [hj]; exact hi
  · rw [k.others j hj]; exact h j

theorem of_map (h : ∀ i, P (s.lane i)) (f : LaneState → LaneState) (hf : ∀ l, P l → P (f l))
    (e : t.lanes = s.lanes.map f) : ∀ i, P (t.lane i) := by
  intro j
  rw [show t.lane j = f (s.lane j) by simp [State.lane, e]]
  exact hf _ (h j)

/-- What keeps `P` in the lane that it reaches keeps it in every lane. -/
theorem keptByOperations (hP : KeptInEveryLane P) : KeptByOperations fun s => ∀ i, P (s.lane i) where
  elsewhere _ _ e h := of_lanes h e.lanes
  takeBit i b s h := of_laneFrame h (LaneFrame.takeBit i s b) (hP.takeBit s i b (h i))
  countTick _ h := of_map h LaneState.countSilence hP.countSilence rfl
  expireSilence s i h := of_laneFrame h (LaneFrame.expireSilence i s) (hP.expireSilence s i (h i))
  startLane i s h := of_laneFrame h (LaneFrame.startLane i s) (hP.startLane s i (h i))
  stopLane i s h := of_laneFrame h (LaneFrame.stopLane i s) (hP.stopLane s i (h i))
  resyncLane i s h := of_laneFrame h (LaneFrame.resyncLane i s) (hP.resyncLane s i (h i))
  swapTables s h := by
    have k : ∀ t : State, t.lanes = s.lanes.map (LaneState.swapTo s.tables.edit) → ∀ i, P (t.lane i) :=
      fun _ e => of_map h _ (fun l => hP.swapTo l _) e
    unfold Machine.swapTables
    dsimp only
    split
    · exact h
    · split
      · exact k _ (State.post_lanes _ _ _)
      · exact k _ rfl
  copyOne s h := of_lanes h (lanes_copyOne s)
  flushRecords _ h := of_lanes h rfl
  softResetAll s h := of_map h (LaneState.softReset s.tables.active) (fun l => hP.softReset l _) rfl
  readLslip s h := of_laneFrame h (LaneFrame.setLane s.lsel s _ rfl rfl)
    (by simpa [readLslip] using hP.clearSlip _ (h s.lsel))
  readRdata k s h := of_lanes h (lanes_readRdata k s)
  writeTwdata v s h := of_lanes h (lanes_writeTwdata v s)

end KeptInEveryLane

/-! ### An open and a closed frame (R47, R48, R61, R78, R83) -/

/-- A frame is in progress, and its three partners have it open. -/
structure FrameOpen (l : LaneState) : Prop where
  frame : l.engine.frame.isSome = true
  tracked : l.tracker.frameState.isSome = true
  tracker : TrackerOk l.tracker
  opened : l.selector.isOpen = true
  bank : l.selector.bank = l.bankInUse
  checked : l.check.state.isSome = true

/-- No frame is in progress, and no partner has one open. -/
structure FrameClosed (l : LaneState) : Prop where
  frame : l.engine.frame = none
  tracked : l.tracker.frameState = none
  tracker : TrackerOk l.tracker
  opened : l.selector.isOpen = false
  checked : l.check.state = none
  staged : l.check.staging = []

section LaneFrames

variable {l : LaneState}

/-- A lane in LOCK or COAST is sound exactly when its frame is open. -/
theorem frameOk_iff_open (hl : l.engine.lock = .lock ∨ l.engine.lock = .coast) : FrameOk l ↔ FrameOpen l := by
  constructor
  · intro h
    have hf := h.inLock.2 hl
    exact ⟨hf, h.tracked.2 hf, h.tracker, h.opened.2 hf, h.bank (h.opened.2 hf), h.checked.2 hf⟩
  · intro h
    exact ⟨iff_of_true h.frame hl, iff_of_true h.tracked h.frame, h.tracker, iff_of_true h.opened h.frame,
      fun _ => h.bank, iff_of_true h.checked h.frame, fun _ => h.frame, fun _ => hl,
      fun hi => by rcases hl with e | e <;> simp [e] at hi⟩

/-- Outside LOCK and COAST a sound lane's frame is closed. -/
theorem FrameOk.closed (h : FrameOk l) (hl : ¬(l.engine.lock = .lock ∨ l.engine.lock = .coast)) : FrameClosed l := by
  have hf : ¬l.engine.frame.isSome = true := fun k => hl (h.inLock.1 k)
  exact ⟨by simpa using hf, by simpa [hf] using h.tracked, h.tracker, by simpa [hf] using h.opened,
    by simpa [hf] using h.checked, not_not.1 fun k => hf (h.staged k)⟩

/-- Outside LOCK and COAST a lane is sound with its frame closed, no late test, and at rest in OFF and SEARCH. -/
theorem FrameClosed.frameOk (h : FrameClosed l) (hl : ¬(l.engine.lock = .lock ∨ l.engine.lock = .coast))
    (hlate : l.engine.late = none)
    (hidle : l.engine.lock = .off ∨ l.engine.lock = .search →
      l.engine.good = 0 ∧ l.engine.bad = 0 ∧ l.engine.bitPos = 0) : FrameOk l where
  inLock := by simp [h.frame, hl]
  tracked := by simp [h.frame, h.tracked]
  tracker := h.tracker
  opened := by simp [h.frame, h.opened]
  bank := by simp [h.opened]
  checked := by simp [h.frame, h.checked]
  staged := by simp [h.staged]
  late := by simp [hlate]
  idle := hidle

/-- No field of the intake takes part in a frame's soundness. -/
theorem FrameOk.intake (h : FrameOk l) (x : Intake) : FrameOk { l with intake := x } := { h with }

theorem FrameOk.late_none (h : FrameOk l) (hl : ¬(l.engine.lock = .lock ∨ l.engine.lock = .coast)) :
    l.engine.late = none := by
  simpa using fun k => hl (h.late k)

theorem FrameOpen.engine (h : FrameOpen l) (e : Engine) (he : e.frame = l.engine.frame) :
    FrameOpen { l with engine := e } := { h with frame := he ▸ h.frame }

theorem FrameClosed.engine (h : FrameClosed l) (e : Engine) (he : e.frame = none) :
    FrameClosed { l with engine := e } := { h with frame := he }

/-- A frame's end closes it, whatever stood before (R38, R56, R75, R87). -/
theorem FrameClosed.closeFrame (l : LaneState) : FrameClosed l.closeFrame :=
  ⟨rfl, rfl, TrackerOk.closeFrame _, rfl, rfl, rfl⟩

theorem FrameClosed.start (l : LaneState) : FrameClosed l.start :=
  ⟨rfl, rfl, TrackerOk.closeFrame _, rfl, rfl, rfl⟩

theorem FrameOk.stop (l : LaneState) : FrameOk l.stop :=
  FrameClosed.frameOk ⟨rfl, rfl, TrackerOk.closeFrame _, rfl, rfl, rfl⟩ (by simp [LaneState.stop, Engine.stop]) rfl
    fun _ => ⟨rfl, rfl, rfl⟩

theorem FrameOk.reset : FrameOk LaneState.reset :=
  FrameClosed.frameOk ⟨rfl, rfl, TrackerOk.closed _ rfl rfl rfl, rfl, rfl, rfl⟩ (by decide) rfl
    fun _ => ⟨rfl, rfl, rfl⟩

/-- An entry to SEARCH of a lane without a frame (R20, R40, R50). -/
theorem FrameClosed.searching (h : FrameClosed l) (b : Bank) : FrameOk (searchingLane l b) := by
  have ht : TrackerOk (searchingLane l b).tracker := by
    have k := h.tracker.searchEntry l.intake.profile
    rwa [Tracker.searchEntry_eq] at k
  exact FrameClosed.frameOk { h with tracker := ht } (by simp [searchingLane]) rfl fun _ => ⟨rfl, rfl, rfl⟩

/-- The bank in use of a lane without a frame is free. -/
theorem FrameOk.setBank (h : FrameOk l) (hl : ¬(l.engine.lock = .lock ∨ l.engine.lock = .coast)) (b : Bank) :
    FrameOk { l with bankInUse := b } :=
  FrameClosed.frameOk { h.closed hl with } hl (h.late_none hl) h.idle

theorem FrameOk.swapTo (h : FrameOk l) (b : Bank) : FrameOk (l.swapTo b) := by
  unfold LaneState.swapTo
  split
  · next hi => exact h.setBank (by rcases hi with e | e <;> simp [e]) b
  · exact h

end LaneFrames

/-! ### The partners of a word keep the frame open (R73) -/

theorem Selector.countAnswer_open (a : Answer) (x : Selector) :
    (x.countAnswer a).isOpen = x.isOpen ∧ (x.countAnswer a).bank = x.bank := by
  cases a <;> exact ⟨rfl, rfl⟩

section OpenFrame

variable {s : State} {i : LaneId} (h : FrameOpen (s.lane i))
include h

theorem FrameOpen.deliver (q : QueueId) (r : WordRecord) : FrameOpen ((s.deliver i q r).lane i) := by
  obtain ⟨hopen, hbank⟩ := Selector.countAnswer_open (s.offerWord q r).1 (s.lane i).selector
  unfold State.deliver
  rw [State.lane_mapLane_self, (SameStores.offerWord s q r).lane i]
  exact { h with opened := hopen ▸ h.opened, bank := hbank ▸ h.bank }

theorem FrameOpen.stageWord (x : Staged) : FrameOpen ((s.stageWord i x).lane i) := by
  unfold State.stageWord
  dsimp only
  split
  · rw [State.lane_mapLane_self]; exact { h with }
  · split
    · rw [State.lane_mapLane_self]; exact { h with }
    · rw [State.lane_post, State.lane_mapLane_self]; exact { h with }

theorem FrameOpen.compareCheck (v : BitVec 16) : FrameOpen ((s.compareCheck i v).lane i) := by
  unfold State.compareCheck
  dsimp only
  split
  · split
    · rw [State.lane_setLane_self]; exact { h with checked := rfl }
    · refine State.releaseAll_keeps (fun t => FrameOpen (t.lane i)) i (fun _ q r k => k.deliver q r) _ _ ?_
      rw [State.lane_setLane_self]; exact { h with checked := rfl }
  · rw [State.lane_post, State.lane_setLane_self]; exact { h with checked := rfl }

theorem FrameOpen.checkWordNotice (x : Nat) (v : BitVec 16) : FrameOpen ((s.checkWordNotice i x v).lane i) := by
  unfold State.checkWordNotice
  dsimp only
  split
  · exact h
  · split
    · rw [State.lane_setLane_self]; exact { h with }
    · split
      · exact h.compareCheck v
      · exact h

theorem FrameOpen.trackWord (x : Nat) (v : BitVec 16) : FrameOpen ((s.trackWord i x v).lane i) := by
  have counted (n : Nat) : FrameOpen
      { s.lane i with tracker := ((s.lane i).tracker.counter (s.lane i).intake.profile n).1 } := by
    obtain ⟨-, -, hstate⟩ := Tracker.counter_fields (s.lane i).intake.profile (s.lane i).tracker n
    exact { h with tracked := hstate ▸ h.tracked, tracker := h.tracker.counter _ n }
  unfold State.trackWord
  dsimp only
  split
  · split
    · rw [State.lane_setLane_self]; exact counted _
    · rw [State.lane_post, State.lane_setLane_self]; exact counted _
  · exact h

theorem FrameOpen.evaluateEntry (x : Nat) (v : BitVec 16) (e : SelEntry) :
    FrameOpen ((s.evaluateEntry i x v e).lane i) := by
  unfold State.evaluateEntry
  dsimp only
  split
  · exact h
  · rw [State.lane_setLane_self]; exact { h with }
  · split
    · exact h.stageWord _
    · exact h.deliver _ _

theorem FrameOpen.advanceCursor : FrameOpen ((s.advanceCursor i).lane i) := by
  unfold State.advanceCursor
  rw [State.lane_mapLane_self]
  exact { h with }

theorem FrameOpen.selectWord (x : Nat) (v : BitVec 16) : FrameOpen ((s.selectWord i x v).lane i) := by
  unfold State.selectWord
  dsimp only
  split
  · split
    · exact h
    · exact State.walk_keeps (fun t => FrameOpen (t.lane i)) i x v (fun _ k => k.advanceCursor)
        (fun _ e k => k.evaluateEntry x v e) _ s h
  · exact h

theorem FrameOpen.wordNotice (x : Nat) (v : BitVec 16) : FrameOpen ((s.wordNotice i x v).lane i) :=
  ((h.trackWord x v).checkWordNotice x v).selectWord x v

theorem FrameOpen.syncNotices (w : List Bool) : FrameOpen ((s.syncNotices i w).lane i) :=
  State.foldl_keeps (fun t => FrameOpen (t.lane i)) _ (fun _ _ k => k.wordNotice _ _) _ s h

end OpenFrame

/-! ### A word leaves the engine alone -/

theorem engine_trackWord (s : State) (i : LaneId) (x : Nat) (v : BitVec 16) :
    ((s.trackWord i x v).lane i).engine = (s.lane i).engine := by
  unfold State.trackWord
  dsimp only
  split
  · split
    · rw [State.lane_setLane_self]
    · rw [State.lane_post, State.lane_setLane_self]
  · rfl

theorem engine_wordNotice (s : State) (i : LaneId) (x : Nat) (v : BitVec 16) :
    ((s.wordNotice i x v).lane i).engine = (s.lane i).engine :=
  ((SameUpstream.checkWordNotice _ i x v).trans (SameUpstream.selectWord _ i x v)).engine.trans
    (engine_trackWord s i x v)

theorem engine_syncNotices (s : State) (i : LaneId) (w : List Bool) :
    ((s.syncNotices i w).lane i).engine = (s.lane i).engine :=
  State.foldl_keeps (fun t => (t.lane i).engine = (s.lane i).engine) _
    (fun _ _ k => (engine_wordNotice _ i _ _).trans k) _ s rfl

/-! ### Frame starts, frame ends and entries to SEARCH -/

section FrameEvents

variable {s : State} {i : LaneId}

/-- A frame start opens the frame at every partner, whatever stood before (R35, R51, R52, R62, R79). -/
theorem FrameOpen.startFrame (s : State) (i : LaneId) (kind : StartKind) (slip : StartSlip) (w : List Bool) :
    FrameOpen ((s.startFrame i kind slip w).lane i) := by
  unfold State.startFrame
  refine FrameOpen.syncNotices ?_ w
  rw [State.lane_setLane_self]
  refine ⟨rfl, Tracker.startFrame_frameState _ _ _, TrackerOk.startFrame _ _ _, rfl, rfl, ?_⟩
  dsimp only [CheckBlock.startFrame]
  split <;> rfl

theorem lock_startFrame (s : State) (i : LaneId) (kind : StartKind) (slip : StartSlip) (w : List Bool) :
    ((s.startFrame i kind slip w).lane i).engine.lock = (s.lane i).engine.lock := by
  unfold State.startFrame
  rw [engine_syncNotices, State.lane_setLane_self]

/-- A lane that enters LOCK or COAST, takes the ACTIVE bank and starts a frame is sound. -/
theorem FrameOk.beginFrame (f : LaneState → LaneState)
    (hf : (f (s.lane i)).engine.lock = .lock ∨ (f (s.lane i)).engine.lock = .coast) (kind : StartKind)
    (slip : StartSlip) (w : List Bool) :
    FrameOk ((((s.mapLane i f).takeActive i).startFrame i kind slip w).lane i) := by
  refine (frameOk_iff_open ?_).2 (FrameOpen.startFrame _ i kind slip w)
  rw [lock_startFrame, State.lane_takeActive, if_pos rfl, State.lane_mapLane_self]
  exact hf

theorem FrameClosed.endFrame (hf : (s.lane i).engine.frame.isSome = true) (e : EndClass) :
    FrameClosed ((s.endFrame i e).lane i) := by
  obtain ⟨f, hf⟩ := Option.isSome_iff_exists.1 hf
  rw [State.endFrame_some s i e f hf, State.lane_setLane_self]
  exact FrameClosed.closeFrame _

theorem FrameOk.abandon (h : FrameOk (s.lane i)) : FrameClosed ((s.abandon i).lane i) := by
  cases hf : (s.lane i).engine.frame with
  | none =>
    have hl : ¬((s.lane i).engine.lock = .lock ∨ (s.lane i).engine.lock = .coast) :=
      fun k => absurd (h.inLock.2 k) (by simp [hf])
    rw [State.abandon_none s i hf, State.lane_setLane_self]
    exact (h.closed hl).engine _ hf
  | some f =>
    rw [State.abandon_some s i f hf, State.lane_setLane_self]
    exact (FrameClosed.closeFrame _).engine _ rfl

theorem FrameClosed.enterSearch (h : FrameClosed (s.lane i)) : FrameOk ((s.enterSearch i).lane i) := by
  rw [State.enterSearch_eq, State.lane_setLane_self]
  exact h.searching _

/-- A lane that uses the ACTIVE bank has none to take. -/
theorem State.takeActive_of_eq (h : (s.lane i).bankInUse = s.tables.active) : s.takeActive i = s := by
  simp [State.takeActive, State.swapPending, h]

/-- An evaluation that ends in SEARCH enters it as any other event does (R32, R40): the bank that its notice takes is
the one that the search entry would take. -/
theorem State.failToSearch_eq (s : State) (i : LaneId) :
    s.failToSearch i = (s.takeActive i).setLane i (searchingLane (s.lane i) s.tables.active) := by
  have htaken : (s.takeActive i).takeActive i = s.takeActive i :=
    State.takeActive_of_eq (by rw [State.lane_takeActive, if_pos rfl, State.takeActive_active])
  unfold State.failToSearch State.mapLane
  rw [State.takeActive_setLane s i _ (by rfl), State.searchNotice_eq, State.takeActive_setLane, htaken,
    State.setLane_setLane, State.lane_setLane_self, State.setLane_tables, State.takeActive_active]
  · rfl
  · rw [State.lane_takeActive, if_pos rfl]

theorem FrameClosed.failToSearch (h : FrameClosed (s.lane i)) : FrameOk ((s.failToSearch i).lane i) := by
  rw [State.failToSearch_eq, State.lane_setLane_self]
  exact h.searching _

theorem FrameOk.takeActive (h : FrameOk (s.lane i))
    (hl : ¬((s.lane i).engine.lock = .lock ∨ (s.lane i).engine.lock = .coast)) :
    FrameOk ((s.takeActive i).lane i) := by
  rw [State.lane_takeActive, if_pos rfl]
  exact h.setBank hl _

/-! ### Sync evaluations (R25 to R32) -/

theorem FrameOk.gainLock (s : State) (i : LaneId) : FrameOk ((s.gainLock i).lane i) := by
  unfold State.gainLock
  dsimp only
  rw [State.lane_post]
  exact FrameOk.beginFrame _ (.inl rfl) _ _ _

/-- An evaluation in CHECK (R25). -/
theorem FrameClosed.evaluateCheck (h : FrameClosed (s.lane i)) (hl : (s.lane i).engine.lock = .check)
    (hlate : (s.lane i).engine.late = none) : FrameOk ((s.evaluateCheck i).lane i) := by
  unfold State.evaluateCheck
  dsimp only
  split
  · split
    · exact FrameOk.gainLock s i
    · rw [State.lane_takeActive, if_pos rfl, State.lane_mapLane_self]
      exact FrameClosed.frameOk { h with } (by simp [hl]) hlate (by simp [hl])
  · exact h.failToSearch

theorem FrameOk.acceptSync (s : State) (i : LaneId) (c : StartSlip) (w : List Bool) :
    FrameOk ((s.acceptSync i c w).lane i) :=
  FrameOk.beginFrame (fun l => { l with engine := { l.engine with lock := .lock, bad := 0 } }) (.inl rfl) _ _ _

theorem FrameOk.rejectSync (hf : (s.lane i).engine.frame.isSome = true) (w : List Bool) :
    FrameOk ((s.rejectSync i w).lane i) := by
  have hcoast := FrameOk.beginFrame (s := (s.mapLane i LaneState.dropLate).endFrame i .unconfirmed) (i := i)
    (fun l => { l with engine := { l.engine with lock := .coast, bad := (s.lane i).engine.badNext } }) (.inr rfl)
    .coast .none w
  unfold State.rejectSync
  dsimp only
  split
  · split
    · rw [State.lane_post]; exact hcoast
    · exact hcoast
  · rw [State.lane_post]
    refine FrameClosed.failToSearch (FrameClosed.endFrame ?_ _)
    rw [State.lane_mapLane_self]
    exact hf

/-- An evaluation in LOCK or COAST (R26 to R31). -/
theorem FrameOpen.evaluateLock (h : FrameOpen (s.lane i))
    (hl : (s.lane i).engine.lock = .lock ∨ (s.lane i).engine.lock = .coast) :
    FrameOk ((s.evaluateLock i).lane i) := by
  unfold State.evaluateLock
  dsimp only
  split
  · exact FrameOk.acceptSync _ _ _ _
  · split
    · split
      · exact FrameOk.acceptSync _ _ _ _
      · rw [State.lane_mapLane_self]
        refine (frameOk_iff_open ?_).2 (h.engine _ rfl)
        exact hl
    · exact FrameOk.rejectSync h.frame _

theorem FrameOpen.completeLate (h : FrameOpen (s.lane i)) (tol : Nat) : FrameOk ((s.completeLate i tol).lane i) := by
  unfold State.completeLate
  dsimp only
  split
  · exact FrameOk.acceptSync _ _ _ _
  · exact FrameOk.rejectSync h.frame _

/-! ### One bit (R22 to R24, R27, R33) -/

theorem FrameOk.searchBit (h : FrameOk (s.lane i)) (hl : (s.lane i).engine.lock = .search) :
    FrameOk ((s.searchBit i).lane i) := by
  have hout : ¬((s.lane i).engine.lock = .lock ∨ (s.lane i).engine.lock = .coast) := by simp [hl]
  have aligned (x : Intake) : FrameOk { s.lane i with
      intake := x
      engine := { (s.lane i).engine with
        bitPos := (s.lane i).intake.profile.syncLen - 1, good := 0, bad := 0, lock := .check } } :=
    FrameClosed.frameOk { h.closed hout with } (by simp) (h.late_none hout) (by simp)
  unfold State.searchBit
  dsimp only
  split
  · split
    · exact h
    · unfold State.searchMatch
      dsimp only
      split
      · rw [State.lane_setLane_self]; exact aligned _
      · rw [State.lane_post, State.lane_setLane_self]; exact aligned _
  · exact h

theorem FrameOk.checkBit (h : FrameOk (s.lane i)) (hl : (s.lane i).engine.lock = .check) :
    FrameOk ((s.checkBit i).lane i) := by
  have hout : ¬((s.lane i).engine.lock = .lock ∨ (s.lane i).engine.lock = .coast) := by simp [hl]
  have hclosed : FrameClosed ((s.advanceBit i).lane i) := by
    rw [lane_advanceBit]; exact (h.closed hout).engine _ (h.closed hout).frame
  have hcheck : ((s.advanceBit i).lane i).engine.lock = .check := by rw [lane_advanceBit]; exact hl
  have hlate : ((s.advanceBit i).lane i).engine.late = none := by rw [lane_advanceBit]; exact h.late_none hout
  unfold State.checkBit
  dsimp only
  split
  · exact hclosed.evaluateCheck hcheck hlate
  · exact hclosed.frameOk (by simp [hcheck]) hlate (by simp [hcheck])

theorem FrameOk.sliceWord (h : FrameOk (s.lane i))
    (hl : (s.lane i).engine.lock = .lock ∨ (s.lane i).engine.lock = .coast) : FrameOk ((s.sliceWord i).lane i) := by
  unfold State.sliceWord
  dsimp only
  split
  · refine (frameOk_iff_open ?_).2 (((frameOk_iff_open hl).1 h).wordNotice _ _)
    rw [engine_wordNotice]; exact hl
  · exact h

theorem FrameOk.lockBit (h : FrameOk (s.lane i))
    (hl : (s.lane i).engine.lock = .lock ∨ (s.lane i).engine.lock = .coast) : FrameOk ((s.lockBit i).lane i) := by
  have hopen : FrameOpen ((s.advanceBit i).lane i) := by
    rw [lane_advanceBit]; exact ((frameOk_iff_open hl).1 h).engine _ rfl
  have hla : ((s.advanceBit i).lane i).engine.lock = .lock ∨ ((s.advanceBit i).lane i).engine.lock = .coast := by
    rw [lane_advanceBit]; exact hl
  unfold State.lockBit
  dsimp only
  split
  · exact hopen.completeLate _
  · split
    · exact hopen.evaluateLock hla
    · exact FrameOk.sliceWord ((frameOk_iff_open hla).2 hopen) hla

theorem FrameOk.takeBit (h : FrameOk (s.lane i)) (b : Bool) : FrameOk ((takeBit i b s).lane i) := by
  unfold Machine.takeBit
  split
  · have hb : FrameOk ((s.mapLane i fun l => { l with intake := l.intake.push b }).lane i) := by
      rw [State.lane_mapLane_self]; exact h.intake _
    unfold State.engineBit
    split
    · exact hb
    · next hl => exact hb.searchBit hl
    · next hl => exact hb.checkBit hl
    · next hl => exact hb.lockBit (.inl hl)
    · next hl => exact hb.lockBit (.inr hl)
  · exact h

/-! ### Silence and lane commands (R5, R14 to R17) -/

theorem FrameOk.loseLock (h : FrameOk (s.lane i)) : FrameOk ((s.loseLock i).lane i) := by
  unfold State.loseLock
  rw [State.lane_post]
  exact h.abandon.enterSearch

theorem FrameOk.returnToSearch (h : FrameOk (s.lane i)) : FrameOk ((s.returnToSearch i).lane i) := by
  unfold State.returnToSearch
  split
  · exact h
  · exact h
  · next hl => exact (h.closed (by simp [hl])).enterSearch
  · exact h.loseLock
  · exact h.loseLock

theorem FrameOk.expireSilence (h : FrameOk (s.lane i)) : FrameOk ((s.expireSilence i).lane i) := by
  unfold State.expireSilence
  refine FrameOk.returnToSearch ?_
  rw [State.lane_post, State.lane_mapLane_self]
  exact h.intake _

theorem FrameOk.startLane (h : FrameOk (s.lane i)) : FrameOk ((startLane i s).2.lane i) := by
  unfold Machine.startLane
  split
  · exact h
  · split
    · rw [State.searchNotice_eq, State.lane_setLane_self, State.lane_mapLane_self]
      exact (FrameClosed.start (s.lane i)).searching _
    · exact h

theorem FrameOk.stopLane (h : FrameOk (s.lane i)) : FrameOk ((stopLane i s).2.lane i) := by
  unfold Machine.stopLane
  split
  · refine FrameOk.takeActive ?_ ?_ <;> rw [State.lane_mapLane_self]
    · exact FrameOk.stop _
    · simp [LaneState.stop, Engine.stop]
  · next hr => exact h.takeActive (by simp [show (s.lane i).engine.lock = .off by simpa [running_iff] using hr])

theorem FrameOk.resyncLane (h : FrameOk (s.lane i)) : FrameOk ((resyncLane i s).2.lane i) := by
  unfold Machine.resyncLane
  split
  · exact h.returnToSearch
  · exact h

end FrameEvents

/-! ### Every step -/

theorem FrameOk.keptInEveryLane : KeptInEveryLane FrameOk where
  takeBit _ _ b h := h.takeBit b
  countSilence l h := by rw [LaneState.countSilence_eq]; exact h.intake _
  expireSilence _ _ h := h.expireSilence
  startLane _ _ h := h.startLane
  stopLane _ _ h := h.stopLane
  resyncLane _ _ h := h.resyncLane
  swapTo _ b h := h.swapTo b
  softReset l _ _ := ((FrameOk.stop l).intake _).setBank (by simp [LaneState.stop, Engine.stop]) _
  clearSlip _ h := h.intake _

theorem FramesOk.writePdata {s : State} (h : FramesOk s) (v : Byte) : FramesOk (writePdata v s) := by
  unfold Machine.writePdata
  split
  · exact KeptInEveryLane.of_lanes h (State.post_lanes _ _ _)
  · refine KeptInEveryLane.of_lanes (s := s.mapLane s.lsel fun l => { l with intake := l.intake.storeByte s.pidx v })
      (fun i => ?_) rfl
    rw [State.lane_mapLane]
    split
    · exact (h i).intake _
    · exact h i

/-- Settles O53: what reaches a lane keeps its frame sound, a PDATA write reaches no frame, and after hardware reset no
lane has one. -/
theorem framesStaySound : Obligations.FramesStaySound := by
  unfold Obligations.FramesStaySound
  intro s t h hstep
  refine FrameOk.keptInEveryLane.keptByOperations.step (fun v _ k => FramesOk.writePdata k v) (fun s _ i => ?_) h hstep
  rw [lane_resetAsserted]
  exact FrameOk.reset

end Sys2Proof

namespace Sys2Proof

open Sys2Proof.Machine

/-! ### Sync words change nothing, so a frame start is its notice alone (R34, R35) -/

section FrameStart

variable {s : State} {i : LaneId}

/-- A profile that LANE_START takes has its check word among the data words, or none (R14). -/
theorem startable_checkWord {p : Profile} (h : p.startable = true) : p.checkWord = 0 ∨ p.syncWords ≤ p.checkWord := by
  obtain ⟨-, -, -, -, -, -, -, -, hck, -⟩ := (startable_iff p).1 h
  exact hck.imp_right And.left

/-- The three partners act on data words alone (R33, R49, R66, R80). -/
theorem wordNotice_sync (hp : (s.lane i).intake.profile.startable = true) {x : Nat}
    (hx : x < (s.lane i).intake.profile.syncWords) (v : BitVec 16) : s.wordNotice i x v = s := by
  have htrack : s.trackWord i x v = s := if_neg fun ⟨_, _, h⟩ => absurd h (Nat.not_le.2 hx)
  have hcheck : s.checkWordNotice i x v = s := by
    unfold State.checkWordNotice
    dsimp only
    rcases startable_checkWord hp with h | h
    · rw [if_pos h]
    · rw [if_neg (by omega), if_neg (by omega), if_neg (by omega)]
  have hselect : s.selectWord i x v = s := if_neg fun ⟨_, h, _⟩ => absurd h (Nat.not_le.2 hx)
  rw [State.wordNotice, htrack, hcheck, hselect]

theorem syncNotices_eq (hp : (s.lane i).intake.profile.startable = true) (w : List Bool) : s.syncNotices i w = s := by
  refine List.foldlRecOn (motive := fun t => t = s) _ _ rfl fun t ht j hj => ?_
  rw [ht]
  exact wordNotice_sync hp (List.mem_range.1 hj) _

/-- A frame start, in the words of the statements (R31, R35, R36, R62, R63, R79). -/
theorem startFrame_eq (hp : (s.lane i).intake.profile.startable = true) (kind : StartKind) (slip : StartSlip)
    (w : List Bool) :
    s.startFrame i kind slip w = s.setLane i (begunLane (s.lane i) (s.lane i).bankInUse
      (s.dirAt (s.lane i).bankInUse i) s.time.counter kind slip ((s.lane i).intake.profile.mismatches w)) := by
  unfold State.startFrame
  dsimp only
  rw [syncNotices_eq (by rw [State.lane_setLane_self]; exact hp)]
  rfl

end FrameStart

/-! ### Updates of one lane, put together (R32) -/

section LaneEquations

variable {s : State} {i : LaneId} {m : LaneState}

theorem State.takeActive_time (s : State) (i : LaneId) : (s.takeActive i).time = s.time :=
  (LaneFrame.takeActive i s).time

/-- The directory record rests on the banks' bytes alone. -/
theorem State.dirAt_takeActive (s : State) (i j : LaneId) (b : Bank) : (s.takeActive i).dirAt b j = s.dirAt b j := by
  rw [State.dirAt, State.takeActive_tables]
  rfl

theorem State.dirAt_offeredEnd (s : State) (i j : LaneId) (m : LaneState) (f : Frame) (e : EndClass) (b : Bank) :
    (offeredEnd s i m f e).dirAt b j = s.dirAt b j := by
  rw [State.dirAt, offeredEnd_tables]
  rfl

theorem offeredEnd_time (s : State) (i : LaneId) (m : LaneState) (f : Frame) (e : EndClass) :
    (offeredEnd s i m f e).time = s.time :=
  (LaneFrame.offerRecord i s _ _).time

/-- The end of the frame `f` of the lane `m`: its record is offered, and the lane closed (R38). -/
theorem endFrame_setLane {f : Frame} (hf : m.engine.frame = some f) (e : EndClass) :
    (s.setLane i m).endFrame i e = (offeredEnd s i m f e).setLane i m.closeFrame := by
  rw [State.endFrame_some _ i e f (by rw [State.lane_setLane_self]; exact hf), State.lane_setLane_self, offeredEnd,
    State.offerRecord_setLane, State.setLane_setLane]
  rfl

section SameBank

variable (hb : m.bankInUse = (s.lane i).bankInUse)
include hb

/-- The lane `m` takes the ACTIVE bank and starts a frame on it (R35, R36, R62, R93). -/
theorem takeActive_startFrame (hp : m.intake.profile.startable = true) (kind : StartKind) (slip : StartSlip)
    (w : List Bool) :
    ((s.setLane i m).takeActive i).startFrame i kind slip w =
      (s.takeActive i).setLane i (begunLane m s.tables.active (s.dirAt s.tables.active i) s.time.counter kind slip
        (m.intake.profile.mismatches w)) := by
  rw [State.takeActive_setLane s i m hb, startFrame_eq (by rw [State.lane_setLane_self]; exact hp),
    State.lane_setLane_self, State.setLane_setLane, State.setLane_time, State.takeActive_time]
  have hdir : ((s.takeActive i).setLane i { m with bankInUse := s.tables.active }).dirAt s.tables.active i =
      s.dirAt s.tables.active i := State.dirAt_takeActive s i i _
  rw [hdir]
  rfl

theorem failToSearch_setLane :
    (s.setLane i m).failToSearch i = (s.takeActive i).setLane i (searchingLane m s.tables.active) := by
  rw [State.failToSearch_eq, State.takeActive_setLane s i m hb, State.setLane_setLane, State.lane_setLane_self]
  rfl

theorem gainLock_setLane (hp : m.intake.profile.startable = true) :
    (s.setLane i m).gainLock i = ((s.takeActive i).post .lockGained (laneSource i)).setLane i
      (begunLane { m with engine := { m.engine with good := m.engine.good + 1, bad := 0, lock := .lock } }
        s.tables.active (s.dirAt s.tables.active i) s.time.counter .confirm .none
        (m.intake.profile.mismatches (m.intake.corrected m.intake.profile.syncLen))) := by
  unfold State.gainLock State.mapLane
  dsimp only
  rw [State.lane_setLane_self, State.setLane_setLane, takeActive_startFrame (by exact hb) (by exact hp),
    State.post_setLane]

/-- After a frame's end the lane `m` enters LOCK or COAST, takes the ACTIVE bank and starts the next frame (R32). -/
theorem nextFrame_eq (hp : m.intake.profile.startable = true) (l : LaneState) (f : Frame) (e : EndClass)
    (st : LockState) (bad : Nat) (kind : StartKind) (slip : StartSlip) (w : List Bool) :
    ((((offeredEnd s i l f e).setLane i m).mapLane i fun l =>
        { l with engine := { l.engine with lock := st, bad := bad } }).takeActive i).startFrame i kind slip w =
      ((offeredEnd s i l f e).takeActive i).setLane i
        (begunLane { m with engine := { m.engine with lock := st, bad := bad } } s.tables.active
          (s.dirAt s.tables.active i) s.time.counter kind slip (m.intake.profile.mismatches w)) := by
  have hbank : m.bankInUse = ((offeredEnd s i l f e).lane i).bankInUse := by rw [lane_offeredEnd, hb]
  rw [State.mapLane, State.lane_setLane_self, State.setLane_setLane,
    takeActive_startFrame (by exact hbank) (by exact hp), offeredEnd_tables, offeredEnd_time, State.dirAt_offeredEnd]

/-- An accepted candidate, in the words of the statements (R28 to R32). -/
theorem acceptSync_setLane (hp : m.intake.profile.startable = true) {f : Frame} (hf : m.engine.frame = some f)
    (c : StartSlip) (w : List Bool) :
    (s.setLane i m).acceptSync i c w =
      acceptedState s i (m.acceptSlip c) f c c.endClass (m.intake.profile.mismatches w) := by
  have hkept : (m.acceptSlip c).engine.frame = some f ∧ (m.acceptSlip c).bankInUse = m.bankInUse ∧
      (m.acceptSlip c).intake.profile = m.intake.profile ∧ (m.acceptSlip c).engine.late = none := by
    cases c <;> exact ⟨hf, rfl, rfl, rfl⟩
  obtain ⟨hframe, hbank, hprof, hlate⟩ := hkept
  have hend : ((s.setLane i m).mapLane i (LaneState.acceptSlip c)).endFrame i c.endClass =
      (offeredEnd s i (m.acceptSlip c) f c.endClass).setLane i (m.acceptSlip c).closeFrame := by
    rw [State.mapLane, State.lane_setLane_self, State.setLane_setLane, endFrame_setLane hframe]
  unfold State.acceptSync acceptedState
  dsimp only
  rw [hend, nextFrame_eq (by exact hbank.trans hb) (by exact hprof ▸ hp)]
  simp only [LaneState.closeFrame, hlate, hprof]

/-- A bad evaluation, in the words of the statements (R29, R30, R32). -/
theorem rejectSync_setLane (hp : m.intake.profile.startable = true) {f : Frame} (hf : m.engine.frame = some f)
    (w : List Bool) :
    (s.setLane i m).rejectSync i w = rejectedState s i m f (m.intake.profile.mismatches w) := by
  have hend : ((s.setLane i m).mapLane i fun l => { l with engine := { l.engine with late := none } }).endFrame i
      .unconfirmed = (offeredEnd s i m f .unconfirmed).setLane i m.dropLate.closeFrame := by
    rw [State.mapLane, State.lane_setLane_self, State.setLane_setLane]
    exact endFrame_setLane (m := m.dropLate) hf _
  have hsearch : ((offeredEnd s i m f .unconfirmed).setLane i m.dropLate.closeFrame).failToSearch i =
      ((offeredEnd s i m f .unconfirmed).takeActive i).setLane i (searchingLane m.closeFrame s.tables.active) := by
    rw [failToSearch_setLane (by rw [lane_offeredEnd]; exact hb), offeredEnd_tables]
    rfl
  have hbad : m.engine.badNext = badAfter m := rfl
  unfold State.rejectSync rejectedState
  dsimp only
  rw [hend, hsearch, State.lane_setLane_self, hbad, nextFrame_eq (by exact hb) (by exact hp)]
  split
  · split
    · rw [State.post_setLane]
      rfl
    · rfl
  · rw [State.post_setLane]

end SameBank

end LaneEquations

/-! ### Windows (R2, R21, R26) -/

section Windows

variable {x : Intake}

theorem mismatches_corrected (h : x.profile.syncLen ≤ x.hist.length) :
    x.profile.mismatches (x.corrected x.profile.syncLen) = exactErrors x :=
  countMismatches_window _ _ _ _ _ h

theorem mismatches_earlyCorrected (h : x.profile.syncLen + 1 ≤ x.hist.length) :
    x.profile.mismatches (x.earlyCorrected x.profile.syncLen) = earlyErrors x := by
  refine (countMismatches_window _ _ (x.hist.drop 1) _ _ (by rw [List.length_drop]; omega)).trans ?_
  simp only [List.getElem?_drop, Nat.add_comm 1]
  rfl

theorem exactWithin_eq (h : x.profile.syncLen ≤ x.hist.length) (tol : Nat) :
    x.exactWithin tol = decide (exactErrors x ≤ tol) := by
  rw [Intake.exactWithin, mismatches_corrected h, decide_eq_true h, Bool.true_and]

theorem earlyWithin_eq (h : x.profile.syncLen + 1 ≤ x.hist.length) (tol : Nat) :
    x.earlyWithin tol = decide (earlyErrors x ≤ tol) := by
  rw [Intake.earlyWithin, mismatches_earlyCorrected h, decide_eq_true h, Bool.true_and]

/-- A sound lane in CHECK, LOCK or COAST that has taken a bit holds the early window too (R22, R26). -/
theorem StartedOk.taken_earlyWindow {l : LaneState} (h : StartedOk l)
    (hl : l.engine.lock = .check ∨ l.engine.lock = .lock ∨ l.engine.lock = .coast) (b : Bool) :
    l.intake.profile.syncLen + 1 ≤ (takenIntake l.intake b).hist.length := by
  have hL := startable_syncLen (h.startable (by rcases hl with e | e | e <;> simp [e]))
  have hw : l.intake.profile.syncLen ≤ l.intake.hist.length :=
    hl.elim h.window fun k => Nat.le_of_succ_le (h.earlyWindow k)
  rw [← push_eq, push_hist_length]
  omega

end Windows

/-! ### Which work a bit does in the engine (R24, R27, R33) -/

section BitTaken

variable {s : State} {i : LaneId} (b : Bool)

theorem exec_takeBit (hup : s.resetLow = false) :
    exec (.takeBit i b) s = .next { takeBit i b s with dataOut := none } := act_up _ s hup

/-- The evaluation bit of CHECK (R25). -/
theorem takeBit_evaluateCheck (hl : (s.lane i).engine.lock = .check)
    (hend : (steppedLane (s.lane i) b).engine.bitPos + 1 = (s.lane i).intake.profile.syncLen) :
    takeBit i b s = (s.setLane i (steppedLane (s.lane i) b)).evaluateCheck i := by
  have hsync : (steppedLane (s.lane i) b).atSyncEnd = true := (atSyncEnd_iff _).2 hend
  rw [takeBit_running b (by simp [hl])]
  simp only [State.engineBit, State.lane_setLane_self, hl, State.checkBit, advanceBit_taken, hsync, if_true]

/-- A bit in LOCK or COAST, once the position has advanced. -/
theorem takeBit_lockBit (hl : (s.lane i).engine.lock = .lock ∨ (s.lane i).engine.lock = .coast) :
    takeBit i b s =
      (s.setLane i { s.lane i with intake := takenIntake (s.lane i).intake b }).lockBit i := by
  rw [takeBit_running b (by rcases hl with e | e <;> simp [e]), State.engineBit]
  rcases hl with e | e <;> simp only [State.lane_setLane_self, e]

/-- The bit that completes a late test (R27). -/
theorem takeBit_completeLate (hl : (s.lane i).engine.lock = .lock ∨ (s.lane i).engine.lock = .coast) {tol : Nat}
    (hlate : (s.lane i).engine.late = some tol) :
    takeBit i b s = (s.setLane i (steppedLane (s.lane i) b)).completeLate i tol := by
  rw [takeBit_lockBit b hl]
  simp only [State.lockBit, State.lane_setLane_self, hlate, advanceBit_taken]

/-- The evaluation bit of LOCK and COAST (R26). -/
theorem takeBit_evaluateLock (hl : (s.lane i).engine.lock = .lock ∨ (s.lane i).engine.lock = .coast)
    (hlate : (s.lane i).engine.late = none)
    (hend : (steppedLane (s.lane i) b).engine.bitPos + 1 = (s.lane i).intake.profile.syncLen) :
    takeBit i b s = (s.setLane i (steppedLane (s.lane i) b)).evaluateLock i := by
  have hsync : (steppedLane (s.lane i) b).atSyncEnd = true := (atSyncEnd_iff _).2 hend
  rw [takeBit_lockBit b hl]
  simp only [State.lockBit, State.lane_setLane_self, hlate, advanceBit_taken, hsync, if_true]

/-- A bit of LOCK and COAST that ends no sync (R33). -/
theorem takeBit_sliceWord (hl : (s.lane i).engine.lock = .lock ∨ (s.lane i).engine.lock = .coast)
    (hlate : (s.lane i).engine.late = none)
    (hend : (steppedLane (s.lane i) b).engine.bitPos + 1 ≠ (s.lane i).intake.profile.syncLen) :
    takeBit i b s = (s.setLane i (steppedLane (s.lane i) b)).sliceWord i := by
  have hsync : (steppedLane (s.lane i) b).atSyncEnd = false :=
    Bool.eq_false_iff.2 fun h => hend ((atSyncEnd_iff _).1 h)
  rw [takeBit_lockBit b hl]
  simp only [State.lockBit, State.lane_setLane_self, hlate, advanceBit_taken, hsync, Bool.false_eq_true, if_false]

end BitTaken

/-! ### Evaluations in CHECK, in the words of the statements (R25) -/

section CheckEvaluations

variable {s : State} {i : LaneId} {m : LaneState} (hb : m.bankInUse = (s.lane i).bankInUse)
  (hw : m.intake.profile.syncLen ≤ m.intake.hist.length)
include hb hw

theorem evaluateCheck_bad (h : m.intake.profile.lockTol < exactErrors m.intake) :
    (s.setLane i m).evaluateCheck i = (s.takeActive i).setLane i (searchingLane m s.tables.active) := by
  have hbad : m.intake.exactWithin m.intake.profile.lockTol = false := by simpa [exactWithin_eq hw] using h
  simp only [State.evaluateCheck, State.lane_setLane_self, hbad, Bool.false_eq_true, if_false]
  exact failToSearch_setLane hb

theorem evaluateCheck_good (h : exactErrors m.intake ≤ m.intake.profile.lockTol)
    (hc : m.engine.good + 1 < m.intake.profile.checkCount) :
    (s.setLane i m).evaluateCheck i = (s.takeActive i).setLane i
      { m with engine := { m.engine with good := m.engine.good + 1 }, bankInUse := s.tables.active } := by
  have hgood : m.intake.exactWithin m.intake.profile.lockTol = true := by simpa [exactWithin_eq hw] using h
  simp only [State.evaluateCheck, State.lane_setLane_self, hgood, if_true, if_neg (Nat.not_le.2 hc), State.mapLane,
    State.setLane_setLane]
  exact State.takeActive_setLane s i _ hb

theorem evaluateCheck_locks (hp : m.intake.profile.startable = true)
    (h : exactErrors m.intake ≤ m.intake.profile.lockTol)
    (hc : m.intake.profile.checkCount ≤ m.engine.good + 1) :
    (s.setLane i m).evaluateCheck i = ((s.takeActive i).post .lockGained (laneSource i)).setLane i
      (begunLane { m with engine := { m.engine with good := m.engine.good + 1, bad := 0, lock := .lock } }
        s.tables.active (s.dirAt s.tables.active i) s.time.counter .confirm .none (exactErrors m.intake)) := by
  have hgood : m.intake.exactWithin m.intake.profile.lockTol = true := by simpa [exactWithin_eq hw] using h
  simp only [State.evaluateCheck, State.lane_setLane_self, hgood, if_true, if_pos hc]
  rw [gainLock_setLane hb hp, mismatches_corrected hw]

end CheckEvaluations

/-! ### Evaluations in LOCK and COAST (R26 to R32) -/

/-- What a lane stands at when it accepts a candidate does not rest on its late test, which is then over. -/
theorem acceptedState_dropLate (s : State) (i : LaneId) (m : LaneState) (f : Frame) (c : StartSlip) (e : EndClass)
    (n : Nat) : acceptedState s i m.dropLate f c e n = acceptedState s i m f c e n := rfl

/-- A slip counted, up to 255 (R6). -/
theorem satInc_byte (x : Byte) : satInc x = if x = 255 then 255 else x + 1 := by
  unfold satInc
  split <;> simp_all

/-- The lane `m` at the position and with the slip counter of an accepted early or late candidate (R28). -/
def slippedLane (m : LaneState) (pos : Nat) : LaneState :=
  { m with engine := { m.engine with bitPos := pos },
           intake := { m.intake with slip := if m.intake.slip = 255 then 255 else m.intake.slip + 1 } }

theorem acceptSlip_early (m : LaneState) :
    m.acceptSlip .early = (slippedLane m m.intake.profile.syncLen).dropLate := by
  simp only [LaneState.acceptSlip, satInc_byte]
  rfl

theorem acceptSlip_late (m : LaneState) :
    m.acceptSlip .late = (slippedLane m (m.intake.profile.syncLen - 1)).dropLate := by
  simp only [LaneState.acceptSlip, satInc_byte]
  rfl

section FrameInProgress

variable {s : State} {i : LaneId} {m : LaneState} {f : Frame} (hb : m.bankInUse = (s.lane i).bankInUse)
  (hw : m.intake.profile.syncLen + 1 ≤ m.intake.hist.length)

section
include hw

theorem exactWithin_iff (tol : Nat) : m.intake.exactWithin tol = true ↔ exactErrors m.intake ≤ tol := by
  rw [exactWithin_eq (Nat.le_of_succ_le hw), decide_eq_true_iff]

theorem exactWithin_false_iff (tol : Nat) : m.intake.exactWithin tol = false ↔ tol < exactErrors m.intake := by
  rw [exactWithin_eq (Nat.le_of_succ_le hw), decide_eq_false_iff_not, Nat.not_le]

/-- Neither the exact nor the early window is within El: the late window is waited for (R27). -/
theorem evaluateLock_late (h : m.intake.profile.lockTol < exactErrors m.intake)
    (hslip : m.intake.profile.slipWindow = true) (hearly : m.intake.profile.lockTol < earlyErrors m.intake) :
    (s.setLane i m).evaluateLock i =
      s.setLane i { m with engine := { m.engine with late := some m.intake.profile.lockTol } } := by
  have hwithin : m.intake.earlyWithin m.intake.profile.lockTol = false := by simpa [earlyWithin_eq hw] using hearly
  simp only [State.evaluateLock, State.lane_setLane_self, (exactWithin_false_iff hw _).2 h, hslip, hwithin,
    Bool.false_eq_true, if_false, if_true, State.mapLane, State.setLane_setLane]

end

variable (hp : m.intake.profile.startable = true) (hf : m.engine.frame = some f)
include hb hw hp hf

theorem evaluateLock_exact (h : exactErrors m.intake ≤ m.intake.profile.lockTol) :
    (s.setLane i m).evaluateLock i = acceptedState s i m f .none .normal (exactErrors m.intake) := by
  simp only [State.evaluateLock, State.lane_setLane_self, (exactWithin_iff hw _).2 h, if_true]
  rw [acceptSync_setLane hb hp hf, mismatches_corrected (Nat.le_of_succ_le hw)]
  exact acceptedState_dropLate s i m f .none .normal _

theorem evaluateLock_early (h : m.intake.profile.lockTol < exactErrors m.intake)
    (hslip : m.intake.profile.slipWindow = true) (hearly : earlyErrors m.intake ≤ m.intake.profile.lockTol) :
    (s.setLane i m).evaluateLock i =
      acceptedState s i (slippedLane m m.intake.profile.syncLen) f .early .short (earlyErrors m.intake) := by
  have hwithin : m.intake.earlyWithin m.intake.profile.lockTol = true := by simpa [earlyWithin_eq hw] using hearly
  simp only [State.evaluateLock, State.lane_setLane_self, (exactWithin_false_iff hw _).2 h, hslip, hwithin,
    Bool.false_eq_true, if_false, if_true]
  rw [acceptSync_setLane hb hp hf, mismatches_earlyCorrected hw, acceptSlip_early]
  exact acceptedState_dropLate s i _ f .early .short _

theorem evaluateLock_bad (h : m.intake.profile.lockTol < exactErrors m.intake)
    (hslip : m.intake.profile.slipWindow = false) :
    (s.setLane i m).evaluateLock i = rejectedState s i m f (exactErrors m.intake) := by
  simp only [State.evaluateLock, State.lane_setLane_self, (exactWithin_false_iff hw _).2 h, hslip,
    Bool.false_eq_true, if_false]
  rw [rejectSync_setLane hb hp hf, mismatches_corrected (Nat.le_of_succ_le hw)]

theorem completeLate_accepted {tol : Nat} (h : exactErrors m.intake ≤ tol) :
    (s.setLane i m).completeLate i tol =
      acceptedState s i (slippedLane m (m.intake.profile.syncLen - 1)) f .late .long (exactErrors m.intake) := by
  simp only [State.completeLate, State.lane_setLane_self, (exactWithin_iff hw _).2 h, if_true]
  rw [acceptSync_setLane hb hp hf, mismatches_corrected (Nat.le_of_succ_le hw), acceptSlip_late]
  exact acceptedState_dropLate s i _ f .late .long _

theorem completeLate_rejected {tol : Nat} (h : tol < exactErrors m.intake) :
    (s.setLane i m).completeLate i tol = rejectedState s i m f (earlyErrors m.intake) := by
  simp only [State.completeLate, State.lane_setLane_self, (exactWithin_false_iff hw _).2 h, Bool.false_eq_true,
    if_false]
  rw [rejectSync_setLane hb hp hf, mismatches_earlyCorrected hw]

end FrameInProgress

/-- Settles O6: the evaluation bit of CHECK, by the errors of the exact window and the good count. -/
theorem checkEvaluation : Obligations.CheckEvaluation := by
  unfold Obligations.CheckEvaluation
  intro s i b hup hstarted hl m p hend
  have hb : m.bankInUse = (s.lane i).bankInUse := rfl
  have hp : m.intake.profile.startable = true := (hstarted i).startable (by simp [hl])
  have hw : m.intake.profile.syncLen ≤ m.intake.hist.length :=
    Nat.le_of_succ_le ((hstarted i).taken_earlyWindow (.inl hl) b)
  rw [exec_takeBit b hup, takeBit_evaluateCheck b hl hend]
  refine ⟨fun hbad => ?_, fun hgood hc => ?_, fun hgood hc => ?_⟩
  · rw [evaluateCheck_bad hb hw hbad]
  · rw [evaluateCheck_good hb hw hgood hc]
  · rw [evaluateCheck_locks hb hw hp hgood hc]

/-- Settles O7: the evaluation bit of LOCK and COAST, by the errors of the exact and of the early window. -/
theorem lockEvaluation : Obligations.LockEvaluation := by
  unfold Obligations.LockEvaluation
  intro s i b f hup hstarted hl hlate hf m p hend
  have hb : m.bankInUse = (s.lane i).bankInUse := rfl
  have hp : m.intake.profile.startable = true :=
    (hstarted i).startable (by rcases hl with e | e <;> simp [e])
  have hw : m.intake.profile.syncLen + 1 ≤ m.intake.hist.length := (hstarted i).taken_earlyWindow (.inr hl) b
  rw [exec_takeBit b hup, takeBit_evaluateLock b hl hlate hend]
  refine ⟨fun hexact => ?_, fun hbad hslip hearly => ?_, fun hbad hslip hearly => ?_, fun hbad hslip => ?_⟩
  · rw [evaluateLock_exact hb hw hp hf hexact]
  · rw [evaluateLock_early hb hw hp hf hbad hslip hearly]
    rfl
  · rw [evaluateLock_late hw hbad hslip hearly]
  · rw [evaluateLock_bad hb hw hp hf hbad hslip]

/-- Settles O8: a pending late test stands at position L-1, so the next bit has position L, and its window decides. -/
theorem lateTestCompletes : Obligations.LateTestCompletes := by
  unfold Obligations.LateTestCompletes
  intro s i b f tol hup hstarted hl hlate hf m p
  have hb : m.bankInUse = (s.lane i).bankInUse := rfl
  have hp : m.intake.profile.startable = true :=
    (hstarted i).startable (by rcases hl with e | e <;> simp [e])
  have hw : m.intake.profile.syncLen + 1 ≤ m.intake.hist.length := (hstarted i).taken_earlyWindow (.inr hl) b
  rw [exec_takeBit b hup, takeBit_completeLate b hl hlate]
  refine ⟨?_, fun hexact => ?_, fun hbad => ?_⟩
  · have hpos := (hstarted i).late hl (by rw [hlate]; rfl)
    have hF := startable_frameBits hp
    change (if (s.lane i).engine.bitPos + 1 < (s.lane i).intake.profile.frameBits then _ else _) = _
    rw [hpos]
    exact if_pos hF
  · rw [completeLate_accepted hb hw hp hf hexact]
    rfl
  · rw [completeLate_rejected hb hw hp hf hbad]

/-! ### Search (R22, R23, R3) -/

/-- The match that sets polarity `q`: plain in NORMAL, complement in INVERTED, plain first in AUTO (R22). -/
def MatchSets (p : Profile) (plain compl : Prop) (q : Polarity) : Prop :=
  (q = .normal ∧ (p.polarityMode = 0 ∨ p.polarityMode = 2) ∧ plain) ∨
    (q = .inverted ∧ ((p.polarityMode = 1 ∧ compl) ∨ (p.polarityMode = 2 ∧ ¬plain ∧ compl)))

theorem searchTest_some {p : Profile} {w : List Bool} {q : Polarity}
    (h : MatchSets p (p.mismatches w ≤ p.searchTol) (p.complementMismatches w ≤ p.searchTol) q) :
    p.searchTest w = some q := by
  unfold Profile.searchTest
  rcases h with ⟨rfl, hmode | hmode, hplain⟩ | ⟨rfl, ⟨hmode, hcompl⟩ | ⟨hmode, hplain, hcompl⟩⟩
  · simp [hmode, hplain]
  · simp [hmode, hplain]
  · simp [hmode, hcompl]
  · simp [hmode, Nat.not_le.1 hplain, hcompl]

theorem correct_eq (q : Polarity) (b : Bool) : correct q b = if q = .inverted then !b else b := by
  cases q <;> rfl

/-- A match of the window that exists aligns the lane (R22, R23). -/
theorem searchBit_match {s : State} {i : LaneId} {q : Polarity}
    (hw : (s.lane i).intake.profile.syncLen ≤ (s.lane i).intake.hist.length)
    (h : MatchSets (s.lane i).intake.profile
      (mismatchCount (s.lane i).intake.profile (receivedBit (s.lane i).intake) ≤ (s.lane i).intake.profile.searchTol)
      (complementCount (s.lane i).intake.profile (receivedBit (s.lane i).intake) ≤
        (s.lane i).intake.profile.searchTol) q) :
    s.searchBit i = s.searchMatch i q := by
  rw [← mismatches_received _ hw, ← complementMismatches_received _ hw] at h
  unfold State.searchBit
  dsimp only
  rw [if_pos hw, searchTest_some h]

/-- Settles O5: the search test finds the polarity, and the match keeps it or posts its change. -/
theorem searchMatchAligns : Obligations.SearchMatchAligns := by
  unfold Obligations.SearchMatchAligns
  intro s i b q hup hl l p x plain compl hw hmatch e
  have hbit : takeBit i b s = (s.setLane i { l with intake := x }).searchMatch i q := by
    rw [takeBit_running b (by simp [hl]), State.engineBit]
    simp only [State.lane_setLane_self, hl]
    exact searchBit_match (by rw [State.lane_setLane_self]; exact hw) (by rw [State.lane_setLane_self]; exact hmatch)
  rw [exec_takeBit b hup, hbit]
  simp only [State.searchMatch, State.lane_setLane_self, State.setLane_setLane]
  refine ⟨fun hq => ?_, fun hq => ?_⟩
  · rw [if_pos (by exact hq)]
    rfl
  · rw [if_neg (by exact hq), State.post_setLane]
    simp only [Intake.setPolarity, correct_eq]
    rfl

/-! ### Data words (R33) -/

/-- A bit of a word, by its distance from the newest (R33). -/
theorem testBit_bitsValue (w : List Bool) (j : Nat) : (bitsValue w).testBit j = w[j]?.getD false := by
  induction w generalizing j with
  | nil => simp [bitsValue]
  | cons b w ih =>
    have hbit : bitsValue (b :: w) = Nat.bit b (bitsValue w) := by rw [Nat.bit_val, bitsValue, Nat.add_comm]
    rw [hbit]
    cases j with
    | zero => rw [Nat.testBit_bit_zero]; rfl
    | succ j => rw [Nat.testBit_bit_succ, ih]; rfl

/-- The word of the last `n` corrected bits, bit by bit. -/
theorem getLsbD_wordOf_corrected (x : Intake) {n : Nat} (hn : n ≤ 16) (j : Nat) :
    (wordOf (x.corrected n)).getLsbD j = (decide (j < n) && correctedBit x j) := by
  rw [wordOf, BitVec.getLsbD_ofNat, testBit_bitsValue, Intake.corrected, List.getElem?_map, correctedBit]
  by_cases hj : j < n
  · rw [List.getElem?_take_of_lt hj, decide_eq_true hj, decide_eq_true (Nat.lt_of_lt_of_le hj hn)]
  · rw [List.getElem?_take_eq_none (Nat.le_of_not_lt hj), decide_eq_false hj]
    simp

/-- The bit at position kW + W - 1 completes word k (R33). -/
theorem completedWord_eq {l : LaneState} {k : Nat} (hpos : 1 ≤ l.intake.profile.wordLen)
    (hlo : l.intake.profile.syncWords ≤ k) (hhi : k < l.intake.profile.frameWords)
    (h : l.engine.bitPos = k * l.intake.profile.wordLen + l.intake.profile.wordLen - 1) :
    l.completedWord = some k := by
  have hbits : l.engine.bitPos + 1 = (k + 1) * l.intake.profile.wordLen := by rw [Nat.succ_mul]; omega
  have hk : (l.engine.bitPos + 1) / l.intake.profile.wordLen - 1 = k := by
    rw [hbits, Nat.mul_div_cancel _ hpos, Nat.add_sub_cancel]
  unfold LaneState.completedWord
  dsimp only
  rw [hk, if_pos ⟨by rw [hbits, Nat.mul_mod_left], hlo, hhi⟩]

theorem sliceWord_some {s : State} {i : LaneId} {f : Frame} {k : Nat} (hf : (s.lane i).engine.frame = some f)
    (hword : (s.lane i).completedWord = some k) :
    s.sliceWord i = s.wordNotice i k (wordOf ((s.lane i).intake.corrected (s.lane i).intake.profile.wordLen)) := by
  simp only [State.sliceWord, hf, hword]

/-- Settles O9: the completed word's notice, with the last W corrected bits as its value. -/
theorem dataWordCompletes : Obligations.DataWordCompletes := by
  unfold Obligations.DataWordCompletes
  intro s i b f k hup hstarted hl hlate hf m p hlo hhi hpos
  have hp : p.startable = true := (hstarted i).startable (by rcases hl with e | e <;> simp [e])
  obtain ⟨⟨hW, hW', -⟩, -⟩ := (startable_iff p).1 hp
  have hword : m.completedWord = some k := completedWord_eq (l := m) (Nat.le_trans (by decide) hW) hlo hhi hpos
  have hend : m.engine.bitPos + 1 ≠ p.syncLen := by
    have hmul : p.syncLen ≤ k * p.wordLen := Nat.mul_le_mul_right _ hlo
    omega
  refine ⟨wordOf (m.intake.corrected p.wordLen), getLsbD_wordOf_corrected m.intake hW', ?_⟩
  rw [exec_takeBit b hup, takeBit_sliceWord b hl hlate hend,
    sliceWord_some (f := f) (by rw [State.lane_setLane_self]; exact hf) (by rw [State.lane_setLane_self]; exact hword),
    State.lane_setLane_self]
  rfl

end Sys2Proof

namespace Sys2Proof

open Sys2Proof.Machine

/-! ### The cycle mode (R49) -/

theorem Profile.marked_iff (p : Profile) : p.marked = true ↔ p.counterWord ≠ 0 ∧ 2 ≤ p.cycleLen := by
  simp [Profile.marked]

theorem Profile.marked_false_iff (p : Profile) : p.marked = false ↔ p.counterWord = 0 ∨ p.cycleLen < 2 := by
  rw [← Bool.not_eq_true, Profile.marked_iff, not_and_or, not_not, Nat.not_le]

/-! ### A frame start at the cycle tracker, case by case (R51, R52) -/

section FrameStart

variable {p : Profile} {t : Tracker}

theorem Tracker.startFrame_counted (h : p.marked = false) (kind : StartKind) :
    t.startFrame p kind = t.startCounted p kind := if_neg (by simp [h])

theorem Tracker.startFrame_marked (h : p.marked = true) (kind : StartKind) :
    t.startFrame p kind = t.startMarked p := if_pos h

theorem Tracker.startCounted_confirm :
    t.startCounted p .confirm =
      { t with prediction := some 0, framePos := some 0, last := 0, frameState := some .counted } := rfl

theorem Tracker.startCounted_next {kind : StartKind} (h : kind ≠ .confirm) :
    t.startCounted p kind =
      { t with prediction := some (nextPos p t.last), framePos := some (nextPos p t.last),
               last := nextPos p t.last, frameState := some .counted } := by
  simp only [Tracker.startCounted, if_neg h]

theorem Tracker.startMarked_search (h : t.state = .search) :
    t.startMarked p = { t with prediction := none, framePos := none, frameState := some .search } := by
  simp only [Tracker.startMarked, h]

theorem Tracker.startMarked_verify (h : t.state = .verify) :
    t.startMarked p =
      { t with prediction := some (nextPos p t.last), framePos := none, frameState := some .verify } := by
  simp only [Tracker.startMarked, h]

theorem Tracker.startMarked_lock (h : t.state = .lock) :
    t.startMarked p =
      { t with prediction := some (nextPos p t.last), framePos := some (nextPos p t.last),
               frameState := some .lock } := by
  simp only [Tracker.startMarked, h]

end FrameStart

/-- Settles O14, by the mode, and then by the start kind or the cycle state. -/
theorem cycleAtFrameStart : Obligations.CycleAtFrameStart := by
  unfold Obligations.CycleAtFrameStart
  intro p kind t next
  constructor
  case left =>
    intro hmode
    rw [Tracker.startFrame_counted ((Profile.marked_false_iff p).2 hmode)]
    refine ⟨?_, Tracker.startCounted_next⟩
    rintro rfl
    exact Tracker.startCounted_confirm
  case right =>
    intro hword hlen
    rw [Tracker.startFrame_marked ((Profile.marked_iff p).2 ⟨hword, hlen⟩)]
    exact ⟨Tracker.startMarked_search, Tracker.startMarked_verify, Tracker.startMarked_lock⟩

/-! ### A counter value, cell by cell of the chapter's table (R53 to R55) -/

section CounterValue

variable {p : Profile} {v : Nat} {t : Tracker}

theorem Tracker.counter_search_valid (hs : t.state = .search) (hv : v < p.cycleLen) :
    t.counter p v = ({ t with last := BitVec.ofNat 8 v, state := .verify }, none) := by
  simp only [Tracker.counter, hs, if_pos hv]

theorem Tracker.counter_search_invalid (hs : t.state = .search) (hv : p.cycleLen ≤ v) :
    t.counter p v = (t, none) := by
  simp only [Tracker.counter, hs, if_neg (Nat.not_lt.2 hv)]

theorem Tracker.counter_verify_confirmed (hs : t.state = .verify) (hv : v < p.cycleLen)
    (hp : t.prediction = some (BitVec.ofNat 8 v)) :
    t.counter p v = ({ t with last := BitVec.ofNat 8 v, state := .lock, miss := 0 }, some .cycleLocked) := by
  simp only [Tracker.counter, hs, if_pos (And.intro hp hv)]

theorem Tracker.counter_verify_replaced (hs : t.state = .verify) (hv : v < p.cycleLen)
    (hp : t.prediction ≠ some (BitVec.ofNat 8 v)) :
    t.counter p v = ({ t with last := BitVec.ofNat 8 v }, none) := by
  simp only [Tracker.counter, hs, if_neg (mt And.left hp), if_pos hv]

theorem Tracker.counter_verify_invalid (hs : t.state = .verify) (hv : p.cycleLen ≤ v) :
    t.counter p v = ({ t with state := .search }, none) := by
  have hv : ¬ v < p.cycleLen := Nat.not_lt.2 hv
  simp only [Tracker.counter, hs, if_neg (mt And.right hv), if_neg hv]

theorem Tracker.counter_lock_confirmed (hs : t.state = .lock) (hv : v < p.cycleLen)
    (hp : t.prediction = some (BitVec.ofNat 8 v)) :
    t.counter p v = ({ t with last := BitVec.ofNat 8 v, miss := 0 }, none) := by
  simp only [Tracker.counter, hs, if_pos (And.intro hp hv)]

/-- A miss in CY_LOCK: the tracker goes on by its own prediction, and the second miss in a row loses cycle lock. -/
theorem Tracker.counter_lock_missed {y : Byte} (hs : t.state = .lock) (hp : t.prediction = some y)
    (hv : p.cycleLen ≤ v ∨ y ≠ BitVec.ofNat 8 v) :
    t.counter p v =
      if t.miss + 1 = 2 then ({ t with last := y, miss := 0, state := .search }, some .cycleLost)
      else ({ t with last := y, miss := t.miss + 1 }, none) := by
  have hmiss : ¬ (some y = some (BitVec.ofNat 8 v) ∧ v < p.cycleLen) := fun ⟨heq, hlt⟩ =>
    hv.elim (Nat.not_le.2 hlt) (absurd (Option.some.inj heq))
  simp only [Tracker.counter, hs, hp, if_neg hmiss, Option.getD_some]

theorem Tracker.counter_lock_tolerated {y : Byte} (hs : t.state = .lock) (hp : t.prediction = some y)
    (hv : p.cycleLen ≤ v ∨ y ≠ BitVec.ofNat 8 v) (hm : t.miss = 0) :
    t.counter p v = ({ t with last := y, miss := 1 }, none) := by
  rw [Tracker.counter_lock_missed hs hp hv, hm, if_neg (by decide)]

theorem Tracker.counter_lock_lost {y : Byte} (hs : t.state = .lock) (hp : t.prediction = some y)
    (hv : p.cycleLen ≤ v ∨ y ≠ BitVec.ofNat 8 v) (hm : t.miss = 1) :
    t.counter p v = ({ t with last := y, miss := 0, state := .search }, some .cycleLost) := by
  rw [Tracker.counter_lock_missed hs hp hv, if_pos (by rw [hm])]

end CounterValue

/-! ### The word notice at the cycle tracker (R49) -/

section WordNotice

variable {s : State} {i : LaneId} {x : Nat} {v : BitVec 16}

theorem State.trackWord_other (h : (s.lane i).intake.profile.marked = false ∨
    x ≠ (s.lane i).intake.profile.counterWord ∨ x < (s.lane i).intake.profile.syncWords) :
    s.trackWord i x v = s := by
  refine if_neg fun ⟨hmarked, hword, hdata⟩ => ?_
  rcases h with hmode | hne | hsync
  · exact absurd hmarked (by simp [hmode])
  · exact hne hword
  · exact Nat.not_lt.2 hdata hsync

/-- The counter word of a lane in marked mode takes the tracker's answer to its low B bits, and posts what that answer
posts. -/
theorem State.trackWord_counter {u : Tracker} {o : Option Cause} (hmarked : (s.lane i).intake.profile.marked = true)
    (hword : x = (s.lane i).intake.profile.counterWord) (hdata : (s.lane i).intake.profile.syncWords ≤ x)
    (hc : (s.lane i).tracker.counter (s.lane i).intake.profile
      (v.toNat % 2 ^ (s.lane i).intake.profile.counterWidth) = (u, o)) :
    s.trackWord i x v =
      o.elim (s.setLane i { s.lane i with tracker := u })
        fun c => (s.setLane i { s.lane i with tracker := u }).post c (laneSource i) := by
  simp only [State.trackWord, if_pos (And.intro hmarked (And.intro hword hdata)), counterValue, hc]
  cases o <;> rfl

end WordNotice

/-- Settles O15: every cell of the table is the tracker's answer to the counter value, put into the lane. -/
theorem counterWordMovesCycle : Obligations.CounterWordMovesCycle := by
  unfold Obligations.CounterWordMovesCycle
  intro s i x v l p t c become
  constructor
  case left =>
    intro h
    refine State.trackWord_other ?_
    rwa [Profile.marked_false_iff, or_assoc]
  case right =>
    intro hne hlen hword hdata
    have answer {u : Tracker} {o : Option Cause} (hc : t.counter p c = (u, o)) :
        s.trackWord i x v = o.elim (become u) fun k => (become u).post k (laneSource i) :=
      State.trackWord_counter ((Profile.marked_iff p).2 ⟨hne, hlen⟩) hword hdata hc
    refine ⟨?searchValid, ?searchInvalid, ?verifyConfirmed, ?verifyReplaced, ?verifyInvalid, ?lockConfirmed,
      ?lockTolerated, ?lockLost⟩
    case searchValid => exact fun hs hv => answer (Tracker.counter_search_valid hs hv)
    case searchInvalid =>
      exact fun hs hv => (answer (Tracker.counter_search_invalid hs hv)).trans (State.setLane_lane_self s i)
    case verifyConfirmed => exact fun hs hv hp => answer (Tracker.counter_verify_confirmed hs hv hp)
    case verifyReplaced => exact fun hs hv hp => answer (Tracker.counter_verify_replaced hs hv hp)
    case verifyInvalid => exact fun hs hv => answer (Tracker.counter_verify_invalid hs hv)
    case lockConfirmed => exact fun hs hv hp => answer (Tracker.counter_lock_confirmed hs hv hp)
    case lockTolerated => exact fun _ hs hp hv hm => answer (Tracker.counter_lock_tolerated hs hp hv hm)
    case lockLost => exact fun _ hs hp hv hm => answer (Tracker.counter_lock_lost hs hp hv hm)

end Sys2Proof

namespace Sys2Proof

open Sys2Proof.Machine

/-! ### What a filter decides (R69, R70) -/

section Verdict

variable (e : SelEntry) (pos : Option Byte)

/-- The entry's filter selects at the cycle position that the frame offers (R69). -/
def SelectsAt : Prop :=
  e.mode = .all ∨
  (∃ c, pos = some c ∧
    ((e.mode = .atPos ∧ c = e.a) ∨ (e.mode = .every ∧ 1 ≤ e.k.toNat ∧ c.toNat % e.k.toNat = e.a.toNat)))

/-- The entry's filter needs a cycle position that is unknown (R70). -/
def WithholdsAt : Prop := (e.mode = .atPos ∨ e.mode = .every) ∧ pos = none

theorem everySelects_iff (k a c : Byte) :
    everySelects k a c = true ↔ 1 ≤ k.toNat ∧ c.toNat % k.toNat = a.toNat := by
  simp [everySelects, Nat.one_le_iff_ne_zero, ← BitVec.toNat_inj]

theorem verdict_eq_selected_iff : e.verdict pos = .selected ↔ SelectsAt e pos := by
  unfold SelEntry.verdict SelectsAt
  cases e.mode with
  | all => simp
  | parked => simp
  | atPos => cases pos <;> simp
  | every => cases pos <;> simp [everySelects_iff]

theorem verdict_eq_withheld_iff : e.verdict pos = .withheld ↔ WithholdsAt e pos := by
  unfold SelEntry.verdict WithholdsAt
  cases e.mode with
  | all => simp
  | parked => simp
  | atPos => cases pos with
    | none => simp
    | some c => by_cases h : c = e.a <;> simp [h]
  | every => cases pos with
    | none => simp
    | some c => cases h : everySelects e.k e.a c <;> simp [h]

theorem verdict_eq_passed (hs : ¬SelectsAt e pos) (hw : ¬WithholdsAt e pos) : e.verdict pos = .passed := by
  rw [← verdict_eq_selected_iff] at hs
  rw [← verdict_eq_withheld_iff] at hw
  cases h : e.verdict pos with
  | selected => exact absurd h hs
  | withheld => exact absurd h hw
  | passed => rfl

theorem sentStaged_iff (p : Profile) (x : Nat) :
    sentStaged p e x = true ↔ p.checkWord ≠ 0 ∧ e.gated = true ∧ x < p.checkWord := by
  simp [sentStaged, and_assoc]

theorem sentStaged_false_iff (p : Profile) (x : Nat) :
    sentStaged p e x = false ↔ p.checkWord = 0 ∨ e.gated = false ∨ p.checkWord ≤ x := by
  rw [← Bool.not_eq_true, sentStaged_iff]
  simp only [not_and_or, not_not, Bool.not_eq_true, not_lt]

end Verdict

/-! ### An entry that names the word, by the decision (R70 to R72) -/

section EvaluateEntry

variable {s : State} {i : LaneId} {x : Nat} {v : BitVec 16} {e : SelEntry}

theorem evaluateEntry_passed (h : e.verdict (s.lane i).tracker.framePos = .passed) : s.evaluateEntry i x v e = s := by
  simp only [State.evaluateEntry, h]

theorem evaluateEntry_withheld (h : e.verdict (s.lane i).tracker.framePos = .withheld) :
    s.evaluateEntry i x v e = s.mapLane i fun l =>
      { l with selector := { l.selector with withheld := satInc l.selector.withheld } } := by
  simp only [State.evaluateEntry, h]
  rfl

theorem evaluateEntry_staged (h : e.verdict (s.lane i).tracker.framePos = .selected)
    (hst : sentStaged (s.lane i).intake.profile e x = true) :
    s.evaluateEntry i x v e =
      s.stageWord i { queue := e.queue, word := buildRecord i (s.lane i).selector e v } := by
  simp only [State.evaluateEntry, h, hst, if_true]

theorem evaluateEntry_direct (h : e.verdict (s.lane i).tracker.framePos = .selected)
    (hst : sentStaged (s.lane i).intake.profile e x = false) :
    s.evaluateEntry i x v e = s.deliver i e.queue (buildRecord i (s.lane i).selector e v) := by
  simp only [State.evaluateEntry, h, hst, Bool.false_eq_true, if_false]

end EvaluateEntry

/-- The word record of R72; it is marked coasted in a frame that began in COAST. -/
theorem buildRecord_eq (i : LaneId) (sel : Selector) (e : SelEntry) (v : BitVec 16) :
    buildRecord i sel e v =
      { value := v, tag := e.tag, lane := i, coasted := decide (sel.kind = some .coast), verified := false,
        seq3 := sel.seq3 } := by
  simp only [buildRecord, beq_eq_decide]

/-- Settles O19: the filter's decision, and for a selected word whether it waits for the check word. -/
theorem entryEvaluated : Obligations.EntryEvaluated := by
  unfold Obligations.EntryEvaluated
  intro s i x v e l p r selects withholds
  have hr : r = buildRecord i l.selector e v := (buildRecord_eq i l.selector e v).symm
  refine ⟨fun hs hw => ?passed, fun hw => ?withheld, fun hs hst => ?direct, fun hs hck hg hx => ?staged⟩
  case passed => exact evaluateEntry_passed (verdict_eq_passed e _ hs hw)
  case withheld =>
    rw [evaluateEntry_withheld ((verdict_eq_withheld_iff e _).2 hw), ← satInc_byte]
    rfl
  case direct =>
    rw [hr]
    exact evaluateEntry_direct ((verdict_eq_selected_iff e _).2 hs) ((sentStaged_false_iff e p x).2 hst)
  case staged =>
    rw [hr]
    exact evaluateEntry_staged ((verdict_eq_selected_iff e _).2 hs) ((sentStaged_iff e p x).2 ⟨hck, hg, hx⟩)

/-! ### A word record at its queue (R116 to R119) -/

section OfferedWord

variable {s : State} {q : QueueId} {r : WordRecord}

theorem offerWord_disabled (h : (s.queue q).state = .disabled) : s.offerWord q r = (.discarded, s) := by
  simp only [State.offerWord, h]

theorem offerWord_held (h : (s.queue q).state = .held) : s.offerWord q r = (.refused, s.loseWord q) := by
  simp only [State.offerWord, h]

theorem offerWord_room (h : (s.queue q).state = .opened)
    (hroom : (s.queue q).depth < (s.queue q).quota ∧ 0 < s.queues.free) :
    s.offerWord q r = (.appended, s.appendWord q r) := by
  simp only [State.offerWord, h, if_pos hroom]

theorem offerWord_evict {head : WordRecord} {rest : List WordRecord} (h : (s.queue q).state = .opened)
    (hroom : ¬((s.queue q).depth < (s.queue q).quota ∧ 0 < s.queues.free)) (hp : (s.queue q).policy = .dropOld)
    (he : (s.queue q).entries = head :: rest) : s.offerWord q r = (.appended, s.evictWord q rest r) := by
  simp only [State.offerWord, h, if_neg hroom, hp, he]

theorem offerWord_drop (h : (s.queue q).state = .opened)
    (hroom : ¬((s.queue q).depth < (s.queue q).quota ∧ 0 < s.queues.free))
    (hp : (s.queue q).policy = .dropNew ∨ (s.queue q).entries = []) :
    s.offerWord q r = (.dropped, s.loseWord q) := by
  simp only [State.offerWord, h, if_neg hroom]
  cases hpol : (s.queue q).policy with
  | dropNew => rfl
  | dropOld => rw [hp.resolve_left (by simp [hpol])]

theorem satInc_word (x : BitVec 16) : satInc x = if x = 65535 then 65535 else x + 1 := by
  unfold satInc
  split <;> simp_all

/-- The lost counter and the posting of R119. -/
theorem loseWord_eq_post (s : State) (q : QueueId) :
    s.loseWord q = (s.setQueue q { s.queue q with
      lost := if (s.queue q).lost = 65535 then 65535 else (s.queue q).lost + 1 }).post .queueLoss (queueSource q) := by
  rw [State.loseWord, satInc_word]

/-- An eviction is an append and a loss in one (R117). -/
theorem evictWord_eq_post (s : State) (q : QueueId) (rest : List WordRecord) (r : WordRecord) :
    s.evictWord q rest r = (s.setQueue q { s.queue q with
      entries := rest ++ [r]
      lost := if (s.queue q).lost = 65535 then 65535 else (s.queue q).lost + 1 }).post .queueLoss
        (queueSource q) := by
  rw [State.evictWord, loseWord_eq_post, State.queue_setQueue_self, State.setQueue_setQueue]

/-- The record joins the tail of its queue and takes a slot of the pool (R116). -/
def takeSlot (s : State) (q : QueueId) (r : WordRecord) : State :=
  { s.setQueue q { s.queue q with entries := (s.queue q).entries ++ [r] } with queues.free := s.queues.free - 1 }

/-- The four steps of R116. The append that empties the pool takes its last free slot. -/
theorem appendWord_eq_post (hfree : 0 < s.queues.free) :
    s.appendWord q r =
      (let t := if (s.queue q).entries.length + 1 = (s.queue q).threshold
         then (takeSlot s q r).post .queueThreshold (queueSource q) else takeSlot s q r
       if s.queues.free = 1 then t.post .poolEmpty 0xFF else t) := by
  have hempty : s.queues.free - 1 = 0 ↔ s.queues.free = 1 := by omega
  unfold State.appendWord
  simp only [Queue.depth, List.length_append, List.length_singleton, apply_ite State.queues, State.post_queues,
    ite_self, hempty]
  rfl

end OfferedWord

/-! ### The lane counts the answer (R74) -/

section Deliver

/-- The selector `x` once it has counted a record that the queue took (`kept`), or one that was lost to it. -/
def countedSelector (kept : Bool) (x : Selector) : Selector :=
  if kept then { x with delivered := if x.delivered = 255 then 255 else x.delivered + 1 }
  else { x with queueLoss := if x.queueLoss = 255 then 255 else x.queueLoss + 1 }

theorem countAnswer_eq (a : Answer) (x : Selector) :
    x.countAnswer a = countedSelector (decide (a = .appended)) x := by
  cases a <;> simp only [Selector.countAnswer, satInc_byte] <;> rfl

/-- A delivery is the queue's answer `a` and state `t`, and the lane's count of that answer. -/
theorem deliver_of_offerWord {s t : State} {q : QueueId} {r : WordRecord} {a : Answer} (i : LaneId)
    (h : s.offerWord q r = (a, t)) :
    s.deliver i q r =
      t.mapLane i fun l => { l with selector := countedSelector (decide (a = .appended)) l.selector } := by
  simp only [State.deliver, h, countAnswer_eq]

end Deliver

/-- Settles O21, by the queue's state and its room. -/
theorem wordReachesQueue : Obligations.WordReachesQueue := by
  unfold Obligations.WordReachesQueue
  intro s i q r v room lost counted
  refine ⟨fun ho hroom => ?appended, fun head rest ho hroom hp he => ?evicted, fun ho hroom hp => ?dropped,
    fun hh => ?refused, fun hd => ?discarded⟩
  case appended =>
    rw [deliver_of_offerWord i (offerWord_room ho hroom), appendWord_eq_post hroom.2]
    rfl
  case evicted =>
    rw [deliver_of_offerWord i (offerWord_evict ho hroom hp he), evictWord_eq_post]
    rfl
  case dropped =>
    rw [deliver_of_offerWord i (offerWord_drop ho hroom hp), loseWord_eq_post]
    rfl
  case refused =>
    rw [deliver_of_offerWord i (offerWord_held hh), loseWord_eq_post]
    rfl
  case discarded =>
    rw [deliver_of_offerWord i (offerWord_disabled hd)]
    rfl

end Sys2Proof

namespace Sys2Proof

open Sys2Proof.Machine

/-! ### The cursor takes no part in an entry's evaluation (R66, R67) -/

section Cursor

variable (s : State) (i : LaneId)

/-- `s` with the cursor of lane `i` at `c`. -/
def atCursor (c : Nat) : State :=
  s.mapLane i fun l => { l with selector := { l.selector with cursor := c } }

theorem atCursor_cursor : atCursor s i (s.lane i).selector.cursor = s := State.setLane_lane_self s i

theorem lane_atCursor (c : Nat) : (atCursor s i c).lane i =
    { s.lane i with selector := { (s.lane i).selector with cursor := c } } :=
  State.lane_mapLane_self s i _

theorem advanceCursor_atCursor (c : Nat) : (atCursor s i c).advanceCursor i = atCursor s i (c + 1) :=
  State.mapLane_mapLane s i _ _

theorem entryAt_atCursor (c k : Nat) (b : Bank) : (atCursor s i c).entryAt b k = s.entryAt b k := rfl

/-- Two updates of one lane that do not see each other come in either order. -/
theorem State.mapLane_comm {f g : LaneState → LaneState} (h : ∀ l, g (f l) = f (g l)) :
    (s.mapLane i f).mapLane i g = (s.mapLane i g).mapLane i f := by
  simp only [State.mapLane_mapLane, h]

theorem State.post_mapLane (f : LaneState → LaneState) (c : Cause) (src : Byte) :
    (s.mapLane i f).post c src = (s.post c src).mapLane i f := by
  simp only [State.mapLane, State.post_setLane, State.lane_post]

/-! #### The queues do not see the lanes -/

section Queues

variable (l : LaneState) (q : QueueId) (r : WordRecord)

theorem loseWord_setLane : (s.setLane i l).loseWord q = (s.loseWord q).setLane i l :=
  State.post_setLane (s.setQueue q { s.queue q with lost := satInc (s.queue q).lost }) i l _ _

theorem evictWord_setLane (rest : List WordRecord) :
    (s.setLane i l).evictWord q rest r = (s.evictWord q rest r).setLane i l :=
  loseWord_setLane (s.setQueue q { s.queue q with entries := rest ++ [r] }) i l q

theorem takeSlot_setLane : takeSlot (s.setLane i l) q r = (takeSlot s q r).setLane i l := rfl

theorem appendWord_setLane (hfree : 0 < s.queues.free) :
    (s.setLane i l).appendWord q r = (s.appendWord q r).setLane i l := by
  rw [appendWord_eq_post hfree, appendWord_eq_post (s := s.setLane i l) hfree]
  by_cases hthr : (s.queue q).entries.length + 1 = (s.queue q).threshold <;> by_cases hone : s.queues.free = 1 <;>
    simp only [State.queue_setLane, State.setLane_queues, takeSlot_setLane, State.post_setLane, hthr, hone, if_true,
      if_false]

theorem offerWord_setLane :
    (s.setLane i l).offerWord q r = ((s.offerWord q r).1, (s.offerWord q r).2.setLane i l) := by
  rcases s.offerWord_cases q r with ⟨hs, e⟩ | ⟨hs, e⟩ | ⟨hs, hd, hf, e⟩ | ⟨hs, hn, ⟨_, _, hp, he, e⟩ | ⟨hp, e⟩⟩ <;> rw [e]
  · exact offerWord_disabled hs
  · rw [← loseWord_setLane]; exact offerWord_held hs
  · rw [← appendWord_setLane s i l q r hf]; exact offerWord_room hs ⟨hd, hf⟩
  · rw [← evictWord_setLane]; exact offerWord_evict hs hn hp he
  · rw [← loseWord_setLane]; exact offerWord_drop hs hn hp

end Queues

theorem deliver_atCursor (c : Nat) (q : QueueId) (r : WordRecord) :
    (atCursor s i c).deliver i q r = atCursor (s.deliver i q r) i c := by
  have hoffer : (atCursor s i c).offerWord q r = ((s.offerWord q r).1, atCursor (s.offerWord q r).2 i c) := by
    unfold atCursor State.mapLane
    rw [offerWord_setLane, (SameStores.offerWord s q r).lane i]
  have hcount (l : LaneState) : countedSelector (decide ((s.offerWord q r).1 = .appended))
      { l.selector with cursor := c } =
      { countedSelector (decide ((s.offerWord q r).1 = .appended)) l.selector with cursor := c } := by
    unfold countedSelector
    split <;> rfl
  rw [deliver_of_offerWord i hoffer, deliver_of_offerWord i (a := (s.offerWord q r).1) rfl]
  exact State.mapLane_comm _ i fun l => congrArg (fun x => { l with selector := x }) (hcount l)

theorem stageWord_atCursor (c : Nat) (g : Staged) : (atCursor s i c).stageWord i g = atCursor (s.stageWord i g) i c := by
  unfold State.stageWord
  simp only [lane_atCursor]
  split
  · exact State.mapLane_comm s i fun _ => rfl
  · split
    · exact State.mapLane_comm s i fun _ => rfl
    · unfold atCursor
      rw [← State.post_mapLane, State.mapLane_comm s i]
      exact fun _ => rfl

theorem evaluateEntry_atCursor (c x : Nat) (v : BitVec 16) (e : SelEntry) :
    (atCursor s i c).evaluateEntry i x v e = atCursor (s.evaluateEntry i x v e) i c := by
  have hl := lane_atCursor s i c
  cases hv : e.verdict (s.lane i).tracker.framePos with
  | passed => rw [evaluateEntry_passed hv, evaluateEntry_passed (by rw [hl]; exact hv)]
  | withheld =>
    rw [evaluateEntry_withheld hv, evaluateEntry_withheld (by rw [hl]; exact hv)]
    exact State.mapLane_comm s i fun _ => rfl
  | selected =>
    cases hst : sentStaged (s.lane i).intake.profile e x with
    | true =>
      rw [evaluateEntry_staged hv hst, evaluateEntry_staged (by rw [hl]; exact hv) (by rw [hl]; exact hst), hl]
      exact stageWord_atCursor s i c _
    | false =>
      rw [evaluateEntry_direct hv hst, evaluateEntry_direct (by rw [hl]; exact hv) (by rw [hl]; exact hst), hl]
      exact deliver_atCursor s i c _ _

/-! #### An evaluation keeps the frame bank and its entries -/

theorem LaneFrame.ram {i : LaneId} {s t : State} (h : LaneFrame i s t) : t.tables.ram = s.tables.ram := by
  rw [h.tables]

theorem entryAt_evaluateEntry (x : Nat) (v : BitVec 16) (e : SelEntry) (b : Bank) (k : Nat) :
    (s.evaluateEntry i x v e).entryAt b k = s.entryAt b k := by
  rw [State.entryAt, (LaneFrame.evaluateEntry i s x v e).ram]
  rfl

theorem bank_deliver (q : QueueId) (r : WordRecord) :
    ((s.deliver i q r).lane i).selector.bank = (s.lane i).selector.bank := by
  unfold State.deliver
  rw [State.lane_mapLane_self, (SameStores.offerWord s q r).lane i]
  exact (Selector.countAnswer_open _ _).2

theorem selector_stageWord (g : Staged) : ((s.stageWord i g).lane i).selector = (s.lane i).selector := by
  unfold State.stageWord
  dsimp only
  split
  · rw [State.lane_mapLane_self]
  · split
    · rw [State.lane_mapLane_self]
    · rw [State.lane_post, State.lane_mapLane_self]

theorem bank_evaluateEntry (x : Nat) (v : BitVec 16) (e : SelEntry) :
    ((s.evaluateEntry i x v e).lane i).selector.bank = (s.lane i).selector.bank := by
  cases hv : e.verdict (s.lane i).tracker.framePos with
  | passed => rw [evaluateEntry_passed hv]
  | withheld => rw [evaluateEntry_withheld hv, State.lane_mapLane_self]
  | selected =>
    cases hst : sentStaged (s.lane i).intake.profile e x with
    | true => rw [evaluateEntry_staged hv hst, selector_stageWord]
    | false => rw [evaluateEntry_direct hv hst, bank_deliver]

end Cursor

/-! ### The segment walk (R67, R68) -/

/-- Where the walk of word `x` from entry `c` comes to rest: at `e`, or on the first valid entry of a later word. -/
structure RestsAt (entry : Nat → SelEntry) (x c e stop : Nat) : Prop where
  start_le : c ≤ stop
  le_end : stop ≤ e
  behind : ∀ k, c ≤ k → k < stop → (entry k).valid = false ∨ (entry k).position ≤ x
  ahead : stop < e → (entry stop).valid = true ∧ x < (entry stop).position

/-- The evaluation of the `n` entries from `c` on, of those that are valid and name word `x`. -/
def evaluateRange (i : LaneId) (x : Nat) (v : BitVec 16) (entry : Nat → SelEntry) (c n : Nat) (s : State) : State :=
  ((List.range' c n).filter fun k => (entry k).valid && decide ((entry k).position = x)).foldl
    (fun t k => t.evaluateEntry i x v (entry k)) s

section Walk

variable {entry : Nat → SelEntry} {i : LaneId} {x c e n stop : Nat} {v : BitVec 16} {s : State}

/-- A walk rests where it starts: at the segment end, or on a valid entry of a later word. -/
theorem RestsAt.start (hle : c ≤ e) (h : c < e → (entry c).valid = true ∧ x < (entry c).position) :
    RestsAt entry x c e c where
  start_le := le_rfl
  le_end := hle
  behind _ hck hk := absurd hck (Nat.not_le.2 hk)
  ahead := h

/-- A walk that goes past its first entry rests where the walk of the others does. -/
theorem RestsAt.cons (h : RestsAt entry x (c + 1) e stop) (hc : (entry c).valid = false ∨ (entry c).position ≤ x) :
    RestsAt entry x c e stop where
  start_le := Nat.le_of_succ_le h.start_le
  le_end := h.le_end
  behind k hck hk := by
    rcases Nat.eq_or_lt_of_le hck with rfl | hlt
    · exact hc
    · exact h.behind k hlt hk
  ahead := h.ahead

theorem evaluateRange_skip (h : (entry c).valid = false ∨ (entry c).position < x) :
    evaluateRange i x v entry c (n + 1) s = evaluateRange i x v entry (c + 1) n s := by
  have hp : ((entry c).valid && decide ((entry c).position = x)) = false := by
    rcases h with h | h
    · simp [h]
    · simp [Nat.ne_of_lt h]
  simp only [evaluateRange, List.range'_succ, List.filter_cons, hp, Bool.false_eq_true, if_false]

theorem evaluateRange_take (hv : (entry c).valid = true) (hx : (entry c).position = x) :
    evaluateRange i x v entry c (n + 1) s =
      evaluateRange i x v entry (c + 1) n (s.evaluateEntry i x v (entry c)) := by
  simp only [evaluateRange, List.range'_succ, List.filter_cons, hv, hx, decide_true, Bool.and_self, if_true,
    List.foldl_cons]

/-- The first step of a walk looks at the entry under the cursor. -/
theorem walk_succ (h : s.entryAt (s.lane i).selector.bank c = entry c) :
    State.walk i x v (n + 1) (atCursor s i c) =
      if (entry c).valid = false ∨ (entry c).position < x then State.walk i x v n (atCursor s i (c + 1))
      else if (entry c).position = x then
        State.walk i x v n (atCursor (s.evaluateEntry i x v (entry c)) i (c + 1))
      else atCursor s i c := by
  have hentry : (atCursor s i c).entryAt ((atCursor s i c).lane i).selector.bank
      ((atCursor s i c).lane i).selector.cursor = entry c := by
    rw [lane_atCursor, entryAt_atCursor]
    exact h
  simp only [State.walk, hentry, advanceCursor_atCursor, evaluateEntry_atCursor]

/-- A walk of at most `n` entries evaluates those of its word that it passes, and moves the cursor to where it rests. -/
theorem walk_eq (h : ∀ k, s.entryAt (s.lane i).selector.bank k = entry k) :
    ∃ stop, RestsAt entry x c (c + n) stop ∧
      State.walk i x v n (atCursor s i c) = atCursor (evaluateRange i x v entry c (stop - c) s) i stop := by
  induction n generalizing s c with
  | zero =>
    refine ⟨c, .start le_rfl fun hc => absurd hc (lt_irrefl c), ?_⟩
    simp [State.walk, evaluateRange]
  | succ n ih =>
    have hend : c + 1 + n = c + (n + 1) := by omega
    rw [walk_succ (h c), ← hend]
    split
    case isTrue hskip =>
      obtain ⟨stop, hrest, hwalk⟩ := ih (c := c + 1) h
      have hlen : stop - c = stop - (c + 1) + 1 := by have := hrest.start_le; omega
      exact ⟨stop, hrest.cons (hskip.imp_right Nat.le_of_lt), by rw [hwalk, hlen, evaluateRange_skip hskip]⟩
    case isFalse hvalid =>
      obtain ⟨hvalid, hge⟩ : (entry c).valid = true ∧ x ≤ (entry c).position := by simpa using hvalid
      split
      case isTrue hx =>
        obtain ⟨stop, hrest, hwalk⟩ := ih (s := s.evaluateEntry i x v (entry c)) (c := c + 1) fun k => by
          rw [bank_evaluateEntry, entryAt_evaluateEntry, h]
        have hlen : stop - c = stop - (c + 1) + 1 := by have := hrest.start_le; omega
        exact ⟨stop, hrest.cons (.inr hx.le), by rw [hwalk, hlen, evaluateRange_take hvalid hx]⟩
      case isFalse hx =>
        have hlater : x < (entry c).position := lt_of_le_of_ne hge (Ne.symm hx)
        refine ⟨c, .start (by omega) fun _ => ⟨hvalid, hlater⟩, ?_⟩
        simp [evaluateRange]

theorem selectWord_idle (h : (s.lane i).selector.isOpen = false ∨ x < (s.lane i).intake.profile.syncWords ∨
    (s.lane i).intake.profile.frameWords ≤ x ∨ (s.lane i).selector.segStop = none) : s.selectWord i x v = s := by
  unfold State.selectWord
  dsimp only
  split
  case isTrue hdata =>
    obtain ⟨hopen, hsync, hframe⟩ := hdata
    have hnone : (s.lane i).selector.segStop = none := by
      rcases h with h | h | h | h
      · simp [h] at hopen
      · omega
      · omega
      · exact h
    rw [hnone]
  case isFalse => rfl

theorem selectWord_walk (ho : (s.lane i).selector.isOpen = true) (hsync : (s.lane i).intake.profile.syncWords ≤ x)
    (hframe : x < (s.lane i).intake.profile.frameWords) (hstop : (s.lane i).selector.segStop = some e) :
    s.selectWord i x v = State.walk i x v (e - (s.lane i).selector.cursor) s := by
  simp only [State.selectWord, if_pos (And.intro ho (And.intro hsync hframe)), hstop]

end Walk

/-- Settles O18, by induction on the entries from the cursor to the segment end. -/
theorem segmentWalkEvaluates : Obligations.SegmentWalkEvaluates := by
  unfold Obligations.SegmentWalkEvaluates
  intro s i x v l p sel
  refine ⟨selectWord_idle, fun e ho hsync hframe hstop hle => ?_⟩
  obtain ⟨stop, hrest, hwalk⟩ := walk_eq (s := s) (i := i) (x := x) (v := v) (c := sel.cursor) (n := e - sel.cursor)
    (entry := s.entryAt sel.bank) fun _ => rfl
  rw [atCursor_cursor] at hwalk
  rw [Nat.add_sub_cancel' hle] at hrest
  exact ⟨stop, hrest.start_le, hrest.le_end, hrest.behind, hrest.ahead,
    (selectWord_walk ho hsync hframe hstop).trans hwalk⟩

end Sys2Proof

namespace Sys2Proof

open Sys2Proof.Machine

/-! ### What one happening can write into the banks (R96, R104) -/

/-- What one happening in `s` can make of the banks' bytes: nothing, or one record of the edit bank. -/
inductive BanksAfter (s : State) : Memory → Prop
  /-- Every happening but a copy step and a commit. -/
  | same : BanksAfter s s.tables.ram
  /-- A copy step of a BUSY copy (R104). -/
  | copied (r : Vector Byte 6) : s.tables.copying = true →
      BanksAfter s (s.tables.ram.writeRecord s.tables.edit s.tables.copyIdx r)
  /-- A commit, which a swap in progress refuses (R96). -/
  | committed (x : Fin 260) (r : Vector Byte 6) : s.tables.swapping = false →
      BanksAfter s (s.tables.ram.writeRecord s.tables.edit x.val r)

section BankBytes

variable {s t : State}

theorem BanksAfter.of_eq {m : Memory} (h : m = s.tables.ram) : BanksAfter s m := h ▸ .same

theorem banksAfter_copyOne (s : State) : BanksAfter s (copyOne s).tables.ram := by
  unfold copyOne
  dsimp only
  split
  · next hc =>
    split
    · rw [State.post_tables]; exact .copied _ hc
    · exact .copied _ hc
  · exact .same

theorem banksAfter_writeTwdata (v : Byte) (s : State) : BanksAfter s (writeTwdata v s).tables.ram := by
  unfold writeTwdata State.commitRecord
  dsimp only
  split
  · split
    · rw [State.post_tables]; exact .same
    · next hfree =>
      obtain ⟨hs, -⟩ : s.tables.swapping = false ∧ s.tables.copying = false := by simpa using hfree
      exact .committed s.tables.wIdx _ hs
  · exact .same

/-! #### Happenings that leave the banks alone -/

theorem ram_takeTick (s : State) : (takeTick s).tables.ram = s.tables.ram :=
  takeTick_keeps s (fun t => t.tables.ram = s.tables.ram) (fun _ h => h) (fun _ _ h => h)
    (fun t i h => (LaneFrame.expireSilence i t).ram.trans h) rfl

theorem ram_silenceEvent (i : LaneId) (s : State) : (silenceEvent i s).tables.ram = s.tables.ram := by
  rcases silenceEvent_cases s i with ⟨-, e⟩ | ⟨-, e⟩ <;> rw [e]
  exact ram_takeTick s

theorem ram_swapTables (s : State) : (swapTables s).2.tables.ram = s.tables.ram := by
  unfold swapTables
  dsimp only
  split
  · rfl
  · split
    · rw [State.post_tables]
    · rfl

theorem ram_writePdata (v : Byte) (s : State) : (writePdata v s).tables.ram = s.tables.ram := by
  unfold writePdata
  split
  · exact (SameStores.refuseConfig s).ram
  · rfl

theorem ram_readRdata (k : Fin 16) (s : State) : (readRdata k s).2.tables.ram = s.tables.ram := by
  unfold readRdata
  split
  · split <;> rfl
  · rfl

theorem ram_laneCommand (code : Byte) (f : LaneId → State → CmdStatus × State) (hf : ∀ i s, LaneFrame i s (f i s).2)
    (s : State) : (command code (withLane f) s).tables.ram = s.tables.ram :=
  withLane_keeps (fun t => t.tables.ram = s.tables.ram) f (fun i t h => (hf i t).ram.trans h) s rfl

theorem ram_queueCommand (code : Byte) (f : QueueId → State → CmdStatus × State)
    (hf : ∀ q s, SameStores s (f q s).2) (s : State) :
    (command code (withQueue f) s).tables.ram = s.tables.ram :=
  withQueue_keeps (fun t => t.tables.ram = s.tables.ram) f (fun q t h => (hf q t).ram.trans h) s rfl

theorem ram_issueCommand (code : Byte) (s : State) : (issueCommand code s).tables.ram = s.tables.ram := by
  unfold issueCommand
  split
  · exact ram_laneCommand _ _ LaneFrame.startLane s
  · exact ram_laneCommand _ _ LaneFrame.stopLane s
  · exact ram_laneCommand _ _ LaneFrame.resyncLane s
  · exact ram_swapTables s
  · exact (SameStores.copyTables s).ram
  · exact ram_queueCommand _ openQueue (fun _ _ => ⟨rfl, rfl, rfl⟩) s
  · exact ram_queueCommand _ _ SameStores.holdQueue s
  · exact ram_queueCommand _ disableQueue (fun _ _ => ⟨rfl, rfl, rfl⟩) s
  all_goals rfl

theorem ram_readReg (r : Reg) (s : State) : (readReg r s).2.tables.ram = s.tables.ram := by
  cases r with
  | lseq h => exact (SameStores.readLseq h s).ram
  | twidx h => exact (SameStores.readTwidx h s).ram
  | tridx h => exact (SameStores.readTridx h s).ram
  | trdata => exact (SameStores.readTrdata s).ram
  | qdepth h => exact (SameStores.readQdepth h s).ram
  | qlost h => exact (SameStores.readQlost h s).ram
  | poolfree h => exact (SameStores.readPoolfree h s).ram
  | qdata k => exact (SameStores.readQdata k s).ram
  | ddata n k => exact (SameStores.readDdata n k s).ram
  | rdata k => exact ram_readRdata k s
  | timeByte k => exact (SameStores.readTime k s).ram
  | adata k => exact (SameStores.readAdata k s).ram
  | _ => rfl

/-! #### Every command -/

theorem banksAfter_writeReg (r : Reg) (v : Byte) (s : State) : BanksAfter s (writeReg r v s).tables.ram := by
  cases r with
  | twdata => exact banksAfter_writeTwdata v s
  | cmd => exact .of_eq (ram_issueCommand v s)
  | lsel => exact .of_eq (SameStores.writeLsel v s).ram
  | pidx => exact .of_eq (SameStores.writePidx v s).ram
  | pdata => exact .of_eq (ram_writePdata v s)
  | twidx h => exact .of_eq (SameStores.writeTwidx h v s).ram
  | tridx h => exact .of_eq (SameStores.writeTridx h v s).ram
  | trbank => exact .of_eq (SameStores.writeTrbank v s).ram
  | qsel => exact .of_eq (SameStores.writeQsel v s).ram
  | qmode => exact .of_eq (SameStores.writeQmode v s).ram
  | qquota h => exact .of_eq (SameStores.writeQquota h v s).ram
  | qthr h => exact .of_eq (SameStores.writeQthr h v s).ram
  | dbind n => exact .of_eq (SameStores.writeDbind n v s).ram
  | _ => exact .same

theorem banksAfter_act {f : State → State} (hf : BanksAfter s (f s).tables.ram) (h : act f s = .next t) :
    BanksAfter s t.tables.ram := by
  unfold act at h
  split at h <;> cases h
  · exact .same
  · exact hf

theorem banksAfter_answer {f : State → Byte × State} (hf : (f s).2.tables.ram = s.tables.ram)
    (h : answer f s = .next t) : BanksAfter s t.tables.ram := by
  unfold answer at h
  split at h <;> cases h
  · exact .same
  · exact .of_eq hf

theorem banksAfter_hostAccess (strobe : HostStrobe) (a : Addr) (v : Byte) (h : hostAccess strobe a v s = .next t) :
    BanksAfter s t.tables.ram := by
  cases strobe with
  | write => exact banksAfter_act (banksAfter_writeReg _ v s) h
  | read => exact banksAfter_answer (ram_readReg _ s) h
  | readAndWrite => exact banksAfter_act (f := id) .same h
  | unselected => exact banksAfter_act (f := id) .same h

theorem banksAfter_ackAccess (strobe : AckStrobe) (h : ackAccess strobe s = .next t) :
    BanksAfter s t.tables.ram := by
  cases strobe with
  | read n => exact banksAfter_answer (SameStores.readAck n s).ram h
  | readBoth => exact banksAfter_answer (f := fun u => (0, u)) rfl h
  | write => exact banksAfter_act (f := id) .same h
  | readAndWrite => exact banksAfter_act (f := id) .same h
  | noStrobe => exact banksAfter_act (f := id) .same h

/-- No command but hardware reset writes more into the banks than one record of the edit bank. A command with a register
of its own is the write or the read of that register. -/
theorem banksAfter_exec (c : Instr) (hc : c ≠ .hardwareReset) (h : exec c s = .next t) :
    BanksAfter s t.tables.ram := by
  have write (r : Reg) (v : Byte) : act (writeReg r v) s = .next t → BanksAfter s t.tables.ram :=
    banksAfter_act (banksAfter_writeReg r v s)
  have read (r : Reg) : answer (readReg r) s = .next t → BanksAfter s t.tables.ram :=
    banksAfter_answer (ram_readReg r s)
  cases c with
  | takeBit i b => exact banksAfter_act (.of_eq (LaneFrame.takeBit i s b).ram) h
  | tick => exact banksAfter_act (.of_eq (ram_takeTick s)) h
  | silenceExpiry i => exact banksAfter_act (.of_eq (ram_silenceEvent i s)) h
  | copyStep => exact banksAfter_act (banksAfter_copyOne s) h
  | laneStart => exact write .cmd 0x01 h
  | laneStop => exact write .cmd 0x02 h
  | laneResync => exact write .cmd 0x03 h
  | tableSwap => exact write .cmd 0x10 h
  | tableCopy => exact write .cmd 0x11 h
  | queueOpen => exact write .cmd 0x20 h
  | queueHold => exact write .cmd 0x21 h
  | queueDisable => exact write .cmd 0x22 h
  | timeLatch => exact write .cmd 0x30 h
  | timeLoad => exact write .cmd 0x31 h
  | recordsFlush => exact write .cmd 0x40 h
  | softReset => exact write .cmd 0x7F h
  | commandBadCode code => exact write .cmd code h
  | hardwareReset => exact absurd rfl hc
  | resetRelease => cases h; exact .same
  | lselWrite v => exact write .lsel v h
  | pidxWrite v => exact write .pidx v h
  | pdataRead => exact read .pdata h
  | pdataWrite v => exact write .pdata v h
  | lslipRead => exact read .lslip h
  | lseqRead half => exact read (.lseq half) h
  | twidxWrite half v => exact write (.twidx half) v h
  | twidxRead half => exact read (.twidx half) h
  | twdataWrite v => exact write .twdata v h
  | tridxWrite half v => exact write (.tridx half) v h
  | tridxRead half => exact read (.tridx half) h
  | trbankWrite v => exact write .trbank v h
  | trdataRead => exact read .trdata h
  | qselWrite v => exact write .qsel v h
  | qquotaWrite half v => exact write (.qquota half) v h
  | qthrWrite half v => exact write (.qthr half) v h
  | qmodeWrite v => exact write .qmode v h
  | qdepthRead half => exact read (.qdepth half) h
  | qlostRead half => exact read (.qlost half) h
  | poolfreeRead half => exact read (.poolfree half) h
  | qdataRead k => exact read (.qdata k) h
  | dbindWrite n v => exact write (.dbind n) v h
  | ddataRead n k => exact read (.ddata n k) h
  | dmaAcknowledgeRead strobe => exact banksAfter_ackAccess strobe h
  | rdataRead k => exact read (.rdata k) h
  | rlossRead => exact read .rloss h
  | timeRead k => exact read (.timeByte k) h
  | adataRead k => exact read (.adata k) h
  | registerWrite strobe a v => exact banksAfter_hostAccess strobe a v h

/-! ### The ACTIVE bank and the frame banks are not the edit bank (R64, R93) -/

theorem active_ne_edit (t : TableStore) : t.active ≠ t.edit := by
  unfold TableStore.edit
  cases t.active <;> decide

/-- A record stored in one bank leaves the bytes of the other as they were. -/
theorem Memory.read_writeRecord_otherBank (m : Memory) {b b' : Bank} (hb : b ≠ b') {x x' : Nat} (hx : x < 260)
    (hx' : x' < 260) (k : Fin 6) (r : Vector Byte 6) :
    (m.writeRecord b' x' r).read (recordAddr b x k) = m.read (recordAddr b x k) :=
  Memory.read_writeRecord_ne m b' x' _ r fun k' e => hb (recordAddr_inj b b' x x' k k' hx hx' e).1

/-- Without a swap in progress every lane uses the ACTIVE bank (R102). -/
theorem SwapOk.bankInUse (h : SwapOk s) (hs : s.tables.swapping = false) (i : LaneId) :
    (s.lane i).bankInUse = s.tables.active := by
  by_contra hne
  have hflag := h.flag.2 ⟨i, (s.swapPending_iff i).2 hne⟩
  rw [hs] at hflag
  cases hflag

/-- A bank that is ACTIVE whenever no swap is in progress keeps its bytes: the banks are written only then. -/
theorem BanksAfter.read_eq {m : Memory} (h : BanksAfter s m) (hswap : SwapOk s) {b : Bank}
    (hb : s.tables.swapping = false → b = s.tables.active) {x : Nat} (hx : x < 260) (k : Fin 6) :
    m.read (recordAddr b x k) = s.tables.ram.read (recordAddr b x k) := by
  have hne (hs : s.tables.swapping = false) : b ≠ s.tables.edit := hb hs ▸ active_ne_edit s.tables
  cases h with
  | same => rfl
  | copied r hcopy =>
    exact Memory.read_writeRecord_otherBank _ (hne (hswap.exclusive hcopy)) hx (hswap.progress hcopy) k r
  | committed y r hs => exact Memory.read_writeRecord_otherBank _ (hne hs) hx y.isLt k r

end BankBytes

/-- Settles O59: the banks are written only while no swap is in progress, and then only the edit bank. -/
theorem frameBankStaysStable : Obligations.FrameBankStaysStable := by
  unfold Obligations.FrameBankStaysStable
  intro c s t hframes hswap hc h
  have hafter := banksAfter_exec c hc h
  refine ⟨fun x k hx => hafter.read_eq hswap (fun _ => rfl) hx k, fun i x k hopen hx => ?_⟩
  refine hafter.read_eq hswap (fun hs => ?_) hx k
  rw [(hframes i).bank hopen]
  exact hswap.bankInUse hs i

end Sys2Proof

namespace Sys2Proof

open Sys2Proof.Machine

/-! ### The check register: bit by bit and a whole word at a time (R81) -/

section CheckRegister

/-- One step of the whole-word form: a shift, and 1021h if the bit that left the top was 1. -/
def wordFormStep (x : BitVec 16) : BitVec 16 := if x.getLsbD 15 then (x <<< 1) ^^^ 0x1021 else x <<< 1

/-- The bit fed is the top bit of the word shifted up, so the step's top bit is the feedback; the other bits of the word
move up one place with the register. -/
theorem wordFormStep_xor_shiftLeft (v r : BitVec 16) {n : Nat} (hn : n < 16) :
    wordFormStep (r ^^^ (v <<< (15 - n))) = crcBit r (v.getLsbD n) ^^^ (v <<< (16 - n)) := by
  have htop : (r ^^^ (v <<< (15 - n))).getLsbD 15 = (r.getLsbD 15 != v.getLsbD n) := by
    have hindex : 15 - (15 - n) = n := by omega
    have hinside : ¬15 < 15 - n := by omega
    rw [BitVec.getLsbD_xor, BitVec.getLsbD_shiftLeft, hindex, decide_eq_false hinside]
    rfl
  have hshift : (r ^^^ (v <<< (15 - n))) <<< 1 = (r <<< 1) ^^^ (v <<< (16 - n)) := by
    have hplaces : 15 - n + 1 = 16 - n := by omega
    rw [BitVec.shiftLeft_xor_distrib, ← BitVec.shiftLeft_add, hplaces]
  unfold wordFormStep crcBit
  rw [htop, hshift]
  split
  · ac_rfl
  · rfl

/-- Feeding the low `n` bits is `n` steps on the register with those bits at its top. The word's bits from `n` up are
shifted out, so they play no part. -/
theorem crcBits_eq_iterate (v r : BitVec 16) {n : Nat} (hn : n ≤ 16) :
    crcBits v n r = wordFormStep^[n] (r ^^^ (v <<< (16 - n))) := by
  induction n generalizing r with
  | zero => simp [crcBits]
  | succ n ih =>
    calc crcBits v (n + 1) r
        = crcBits v n (crcBit r (v.getLsbD n)) := rfl
      _ = wordFormStep^[n] (crcBit r (v.getLsbD n) ^^^ (v <<< (16 - n))) := ih _ (by omega)
      _ = wordFormStep^[n] (wordFormStep (r ^^^ (v <<< (15 - n)))) := by rw [wordFormStep_xor_shiftLeft v r hn]
      _ = wordFormStep^[n + 1] (r ^^^ (v <<< (16 - (n + 1)))) := by
        rw [Function.iterate_succ_apply, show 16 - (n + 1) = 15 - n by omega]

end CheckRegister

/-- Settles O16, by induction on the word's width. -/
theorem checkRegisterWordForm : Obligations.CheckRegisterWordForm := by
  unfold Obligations.CheckRegisterWordForm
  intro w v r hw _
  calc crcBits v w r
      = wordFormStep^[w] (r ^^^ (v <<< (16 - w))) := crcBits_eq_iterate v r hw
    _ = (List.range w).foldl (fun x _ => wordFormStep x) (r ^^^ (v <<< (16 - w))) := by
      rw [List.foldl_const, List.length_range]

/-! ### The staging list takes a record (R83) -/

section StageWord

variable {s : State} {i : LaneId} (g : Staged)

theorem stageWord_room (h : (s.lane i).check.staging.length < Config.stagingWords) :
    s.stageWord i g = s.mapLane i fun l => { l with check := { l.check with staging := l.check.staging ++ [g] } } := by
  simp only [State.stageWord, if_pos h]
  rfl

theorem stageWord_full_first (h : ¬(s.lane i).check.staging.length < Config.stagingWords)
    (ho : (s.lane i).check.overflow = false) :
    s.stageWord i g = (s.mapLane i fun l => { l with check := { l.check with
      discarded := satInc l.check.discarded, overflow := true } }).post .stageOverflow (laneSource i) := by
  simp only [State.stageWord, if_neg h, ho, Bool.false_eq_true, if_false]
  rfl

theorem stageWord_full_again (h : ¬(s.lane i).check.staging.length < Config.stagingWords)
    (ho : (s.lane i).check.overflow = true) :
    s.stageWord i g =
      s.mapLane i fun l => { l with check := { l.check with discarded := satInc l.check.discarded } } := by
  simp only [State.stageWord, if_neg h, ho, if_true, State.mapLane]

end StageWord

/-- Settles O20, by the room in the list and the overflow flag. -/
theorem stagingListTakesWord : Obligations.StagingListTakesWord := by
  unfold Obligations.StagingListTakesWord
  intro s i g l c more
  have hmore : satInc c.discarded = more := satInc_byte c.discarded
  refine ⟨fun hroom => ?room, fun hfull ho => ?first, fun hfull ho => ?again⟩
  case room => exact stageWord_room g (Nat.lt_succ_of_le hroom)
  case first =>
    rw [← hmore]
    exact stageWord_full_first g (Nat.not_lt.2 hfull) ho
  case again =>
    rw [← hmore]
    exact stageWord_full_again g (Nat.not_lt.2 hfull) ho

/-! ### The comparison and the staging list (R82, R84, R85) -/

section CompareCheck

variable {s : State} {i : LaneId} {v : BitVec 16}

theorem checkMatches_iff (p : Profile) (reg v : BitVec 16) :
    checkMatches p reg v = true ↔ reg.toNat % 2 ^ p.wordLen = v.toNat := beq_iff_eq

theorem releaseAll_eq_foldl (xs : List Staged) (s : State) (i : LaneId) :
    s.releaseAll i xs = xs.foldl (fun t g => t.deliver i g.queue { g.word with verified := true }) s := by
  induction xs generalizing s with
  | nil => rfl
  | cons x xs ih => exact ih _

theorem compareCheck_released (hm : checkMatches (s.lane i).intake.profile (s.lane i).check.reg v = true)
    (ho : (s.lane i).check.overflow = false) :
    s.compareCheck i v =
      (s.mapLane i fun l => { l with check := { l.check with state := some .good, staging := [] } }).releaseAll i
        (s.lane i).check.staging := by
  simp only [State.compareCheck, hm, if_true]
  exact if_neg (ne_true_of_eq_false ho)

theorem compareCheck_overflowed (hm : checkMatches (s.lane i).intake.profile (s.lane i).check.reg v = true)
    (ho : (s.lane i).check.overflow = true) :
    s.compareCheck i v =
      s.mapLane i fun l => { l with check := { l.check with state := some .good }.discardAll } := by
  simp only [State.compareCheck, hm, if_true]
  exact if_pos ho

theorem compareCheck_bad (hm : ¬checkMatches (s.lane i).intake.profile (s.lane i).check.reg v = true) :
    s.compareCheck i v =
      (s.mapLane i fun l => { l with check := { l.check with state := some .bad }.discardAll }).post .checkBad
        (laneSource i) := by
  simp only [State.compareCheck, if_neg hm]
  rfl

end CompareCheck

/-! ### A data word at the check block (R80) -/

section CheckWordNotice

variable {s : State} {i : LaneId} {x : Nat} (v : BitVec 16)

theorem checkWordNotice_noCheck (h : (s.lane i).intake.profile.checkWord = 0) : s.checkWordNotice i x v = s := by
  simp only [State.checkWordNotice, if_pos h]

theorem checkWordNotice_covered (h : (s.lane i).intake.profile.checkWord ≠ 0)
    (hx : (s.lane i).intake.profile.syncWords ≤ x ∧ x < (s.lane i).intake.profile.checkWord) :
    s.checkWordNotice i x v = s.mapLane i fun l =>
      { l with check := { l.check with reg := crcBits v l.intake.profile.wordLen l.check.reg } } := by
  simp only [State.checkWordNotice, if_neg h, if_pos hx]
  rfl

theorem checkWordNotice_checkWord (h : (s.lane i).intake.profile.checkWord ≠ 0)
    (hx : x = (s.lane i).intake.profile.checkWord) (hp : (s.lane i).check.state = some .pending) :
    s.checkWordNotice i x v = s.compareCheck i v := by
  have hcovered : ¬((s.lane i).intake.profile.syncWords ≤ x ∧ x < (s.lane i).intake.profile.checkWord) := by omega
  simp only [State.checkWordNotice, if_neg h, if_neg hcovered, if_pos (And.intro hx hp)]

theorem checkWordNotice_ignored
    (hcovered : ¬((s.lane i).intake.profile.syncWords ≤ x ∧ x < (s.lane i).intake.profile.checkWord))
    (hx : x ≠ (s.lane i).intake.profile.checkWord) : s.checkWordNotice i x v = s := by
  simp only [State.checkWordNotice, if_neg hcovered, if_neg fun h => hx (And.left h), ite_self]

end CheckWordNotice

/-- Settles O17, by the word's place and, at the check word, by the comparison and the overflow flag. -/
theorem checkWordSettles : Obligations.CheckWordSettles := by
  unfold Obligations.CheckWordSettles
  intro s i x v l p c settled
  refine ⟨checkWordNotice_noCheck v, fun hsync hck =>
    ⟨fun hs hx => ?covered, fun hx => ?ignored, fun hx hp => ⟨fun hm ho => ?released, fun hm ho => ?overflowed,
      fun hm => ?bad⟩⟩⟩
  case covered => exact checkWordNotice_covered v hck ⟨hs, hx⟩
  case ignored =>
    have hcovered : ¬(p.syncWords ≤ x ∧ x < p.checkWord) := by omega
    have hne : x ≠ p.checkWord := by omega
    exact checkWordNotice_ignored v hcovered hne
  case released =>
    rw [checkWordNotice_checkWord v hck hx hp, compareCheck_released ((checkMatches_iff p c.reg v).2 hm) ho]
    exact releaseAll_eq_foldl c.staging _ i
  case overflowed =>
    rw [checkWordNotice_checkWord v hck hx hp]
    exact compareCheck_overflowed ((checkMatches_iff p c.reg v).2 hm) ho
  case bad =>
    rw [checkWordNotice_checkWord v hck hx hp]
    exact compareCheck_bad (mt (checkMatches_iff p c.reg v).1 hm)

end Sys2Proof

namespace Sys2Proof

open Sys2Proof.Machine

/-! ### A lane takes the ACTIVE bank (R93, R102) -/

section TakeActive

variable {s : State} {i : LaneId}

theorem noLanePending_iff (s : State) : s.noLanePending = true ↔ ∀ j, (s.lane j).bankInUse = s.tables.active := by
  simp [State.noLanePending, State.swapPending]

/-- Once lane `i` has the ACTIVE bank, no lane is swap pending exactly when no other lane is. -/
theorem noLanePending_taken_iff (s : State) (i : LaneId) :
    (s.mapLane i fun l => { l with bankInUse := s.tables.active }).noLanePending = true ↔
      ∀ j, j ≠ i → (s.lane j).bankInUse = s.tables.active := by
  rw [noLanePending_iff]
  refine forall_congr' fun j => ?_
  rw [State.lane_mapLane, State.mapLane_tables]
  split
  · next h => simp [h]
  · next h => simp [h]

/-- The swap goes on while another lane is pending. -/
theorem takeActive_one (hi : (s.lane i).bankInUse ≠ s.tables.active)
    (hothers : ∃ j, j ≠ i ∧ (s.lane j).bankInUse ≠ s.tables.active) :
    s.takeActive i = s.setLane i { s.lane i with bankInUse := s.tables.active } := by
  have hmore := (noLanePending_taken_iff s i).not.2 (by simpa using hothers)
  simp only [State.takeActive, (s.swapPending_iff i).2 hi, hmore, if_true]
  rfl

/-- The last pending lane ends the swap. -/
theorem takeActive_last (hi : (s.lane i).bankInUse ≠ s.tables.active)
    (hothers : ∀ j, j ≠ i → (s.lane j).bankInUse = s.tables.active) :
    s.takeActive i = ({ s with tables.swapping := false }.post .swapDone deviceSource).setLane i
      { s.lane i with bankInUse := s.tables.active } := by
  have hnone := (noLanePending_taken_iff s i).2 hothers
  rw [← State.post_setLane]
  simp only [State.takeActive, (s.swapPending_iff i).2 hi, hnone, if_true]
  rfl

end TakeActive

/-- Settles O13, by whether the lane and another one are swap pending. -/
theorem laneTakesActiveBank : Obligations.LaneTakesActiveBank := by
  unfold Obligations.LaneTakesActiveBank
  exact fun s i => ⟨State.takeActive_of_eq, takeActive_one, takeActive_last⟩

end Sys2Proof

namespace Sys2Proof

open Sys2Proof.Machine

/-! ### What a swap and a copy rest on (R93, R100 to R104) -/

/-- The part of the table store that says what swap and what copy is in progress. -/
def Machine.TableStore.progress (t : TableStore) : Bank × Bool × Bool × Nat :=
  (t.active, t.swapping, t.copying, t.copyIdx)

/-- `t` has the banks in use of `s`, and the swap and the copy in progress. -/
structure SameBanks (s t : State) : Prop where
  bank : ∀ j, (t.lane j).bankInUse = (s.lane j).bankInUse
  progress : t.tables.progress = s.tables.progress

/-- The lane is in CHECK, LOCK or COAST, where it may be swap pending (R93). -/
def Aligned (l : LaneState) : Prop := l.engine.lock = .check ∨ l.engine.lock = .lock ∨ l.engine.lock = .coast

namespace SameBanks

variable {s t u : State} {i : LaneId}

theorem refl (s : State) : SameBanks s s := ⟨fun _ => rfl, rfl⟩

theorem trans (h : SameBanks s t) (k : SameBanks t u) : SameBanks s u :=
  ⟨fun j => (k.bank j).trans (h.bank j), k.progress.trans h.progress⟩

theorem of_lanes (e : t.lanes = s.lanes) (p : t.tables.progress = s.tables.progress) : SameBanks s t :=
  ⟨fun j => by simp [State.lane, e], p⟩

theorem active (h : SameBanks s t) : t.tables.active = s.tables.active := congrArg Prod.fst h.progress

theorem swapping (h : SameBanks s t) : t.tables.swapping = s.tables.swapping :=
  congrArg (fun p => p.2.1) h.progress

theorem copying (h : SameBanks s t) : t.tables.copying = s.tables.copying :=
  congrArg (fun p => p.2.2.1) h.progress

theorem copyIdx (h : SameBanks s t) : t.tables.copyIdx = s.tables.copyIdx :=
  congrArg (fun p => p.2.2.2) h.progress

theorem swapPending (h : SameBanks s t) (j : LaneId) : t.swapPending j = s.swapPending j := by
  simp [State.swapPending, h.bank j, h.active]

theorem post (s : State) (c : Cause) (src : Byte) : SameBanks s (s.post c src) :=
  of_lanes (State.post_lanes s c src) (by rw [State.post_tables])

/-- `trans`, the later part first: what it starts from is then known before the earlier part is read. -/
theorem after (k : SameBanks t u) (h : SameBanks s t) : SameBanks s u := trans h k

theorem thenPost (h : SameBanks s t) (c : Cause) (src : Byte) : SameBanks s (t.post c src) := after (post t c src) h

theorem setLane (s : State) (i : LaneId) (l : LaneState) (hl : l.bankInUse = (s.lane i).bankInUse) :
    SameBanks s (s.setLane i l) := by
  refine ⟨fun j => ?_, rfl⟩
  rw [State.lane_setLane]
  split
  · next h => rw [hl, h]
  · rfl

theorem mapLane (s : State) (i : LaneId) (f : LaneState → LaneState) (hf : ∀ l, (f l).bankInUse = l.bankInUse) :
    SameBanks s (s.mapLane i f) :=
  setLane s i _ (hf _)

/-- What a lane's taking the ACTIVE bank does to the banks rests on the banks alone. -/
theorem takeActive (h : SameBanks s t) (i : LaneId) : SameBanks (s.takeActive i) (t.takeActive i) := by
  refine ⟨fun j => ?_, ?_⟩
  · rw [State.lane_takeActive, State.lane_takeActive, h.active]
    split
    · rfl
    · exact h.bank j
  · have hp := h.progress
    by_cases hi : (s.lane i).bankInUse = s.tables.active
    · rw [State.takeActive_of_eq hi, State.takeActive_of_eq (by rw [h.bank, h.active, hi]), hp]
    · have hti : (t.lane i).bankInUse ≠ t.tables.active := by rwa [h.bank, h.active]
      by_cases hothers : ∀ j, j ≠ i → (s.lane j).bankInUse = s.tables.active
      · rw [takeActive_last hi hothers, takeActive_last hti (by simpa only [h.bank, h.active] using hothers)]
        simp [TableStore.progress, h.active, h.copying, h.copyIdx]
      · have hmore : ∃ j, j ≠ i ∧ (s.lane j).bankInUse ≠ s.tables.active := by simpa using hothers
        rw [takeActive_one hi hmore, takeActive_one hti (by simpa only [h.bank, h.active] using hmore)]
        exact hp

/-! #### The partners of a word (R73) -/

theorem offerWord (s : State) (q : QueueId) (r : WordRecord) : SameBanks s (s.offerWord q r).2 := by
  refine of_lanes (SameStores.offerWord s q r).lanes ?_
  rcases s.offerWord_cases q r with ⟨-, e⟩ | ⟨-, e⟩ | ⟨-, -, -, e⟩ | ⟨-, -, ⟨_, _, -, -, e⟩ | ⟨-, e⟩⟩ <;> rw [e]
  · rw [State.loseWord_eq]; rfl
  · rw [State.appendWord_eq]; rfl
  · rw [State.evictWord, State.loseWord_eq]; rfl
  · rw [State.loseWord_eq]; rfl

theorem deliver (s : State) (i : LaneId) (q : QueueId) (r : WordRecord) : SameBanks s (s.deliver i q r) :=
  (offerWord s q r).trans (mapLane _ i _ fun _ => rfl)

theorem stageWord (s : State) (i : LaneId) (x : Staged) : SameBanks s (s.stageWord i x) := by
  unfold State.stageWord
  dsimp only
  split
  · exact setLane s i _ rfl
  · split
    · exact setLane s i _ rfl
    · exact after (post _ _ _) (setLane s i _ rfl)

theorem compareCheck (s : State) (i : LaneId) (v : BitVec 16) : SameBanks s (s.compareCheck i v) := by
  unfold State.compareCheck
  dsimp only
  split
  · split
    · exact setLane s i _ rfl
    · exact State.releaseAll_keeps (SameBanks s) i (fun t q r h => h.trans (deliver t i q r)) _ _ (setLane s i _ rfl)
  · exact after (post _ _ _) (setLane s i _ rfl)

theorem checkWordNotice (s : State) (i : LaneId) (x : Nat) (v : BitVec 16) :
    SameBanks s (s.checkWordNotice i x v) := by
  unfold State.checkWordNotice
  dsimp only
  split
  · exact refl s
  · split
    · exact setLane s i _ rfl
    · split
      · exact compareCheck s i v
      · exact refl s

theorem trackWord (s : State) (i : LaneId) (x : Nat) (v : BitVec 16) : SameBanks s (s.trackWord i x v) := by
  unfold State.trackWord
  dsimp only
  split
  · split
    · exact setLane s i _ rfl
    · exact after (post _ _ _) (setLane s i _ rfl)
  · exact refl s

theorem evaluateEntry (s : State) (i : LaneId) (x : Nat) (v : BitVec 16) (e : SelEntry) :
    SameBanks s (s.evaluateEntry i x v e) := by
  unfold State.evaluateEntry
  dsimp only
  split
  · exact refl s
  · exact setLane s i _ rfl
  · split
    · exact stageWord s i _
    · exact deliver s i _ _

theorem selectWord (s : State) (i : LaneId) (x : Nat) (v : BitVec 16) : SameBanks s (s.selectWord i x v) := by
  unfold State.selectWord
  dsimp only
  split
  · split
    · exact refl s
    · exact State.walk_keeps (SameBanks s) i x v (fun t h => h.trans (mapLane t i _ fun _ => rfl))
        (fun t e h => h.trans (evaluateEntry t i x v e)) _ s (refl s)
  · exact refl s

theorem wordNotice (s : State) (i : LaneId) (x : Nat) (v : BitVec 16) : SameBanks s (s.wordNotice i x v) :=
  ((trackWord s i x v).trans (checkWordNotice _ i x v)).trans (selectWord _ i x v)

/-! #### Frames (R35 to R39) -/

theorem startFrame (s : State) (i : LaneId) (kind : StartKind) (slip : StartSlip) (w : List Bool) :
    SameBanks s (s.startFrame i kind slip w) :=
  after (State.foldl_keeps (SameBanks _) _ (fun t _ h => h.trans (wordNotice t i _ _)) _ _ (refl _))
    (setLane s i _ rfl)

theorem endFrame (s : State) (i : LaneId) (e : EndClass) : SameBanks s (s.endFrame i e) := by
  unfold State.endFrame
  dsimp only
  split
  · exact refl s
  · refine (setLane s i (s.lane i).closeFrame rfl).trans (of_lanes (State.offerRecord_lanes _ _ _) ?_)
    rw [State.offerRecord_tables]

theorem abandon (s : State) (i : LaneId) : SameBanks s (s.abandon i) :=
  (endFrame s i _).trans (mapLane _ i _ fun _ => rfl)

theorem advanceBit (s : State) (i : LaneId) : SameBanks s (s.advanceBit i) := mapLane s i _ fun _ => rfl

end SameBanks

/-! ### The events in which a lane takes the ACTIVE bank (R102) -/

section Takes

variable {s t : State} {i : LaneId}

/-- An entry to SEARCH takes the bank, from whatever the lane's other blocks have become. -/
theorem takes_enterSearch (h : SameBanks s t) : SameBanks (s.takeActive i) (t.enterSearch i) := by
  rw [State.enterSearch_eq]
  refine (h.takeActive i).trans (SameBanks.setLane _ i _ ?_)
  rw [State.lane_takeActive, if_pos rfl]
  rfl

theorem takes_failToSearch (h : SameBanks s t) : SameBanks (s.takeActive i) (t.failToSearch i) := by
  rw [State.failToSearch_eq]
  refine (h.takeActive i).trans (SameBanks.setLane _ i _ ?_)
  rw [State.lane_takeActive, if_pos rfl]
  rfl

/-- A frame starts with the ACTIVE bank that the lane has just taken (R32). -/
theorem takes_startFrame (h : SameBanks s t) (f : LaneState → LaneState) (hf : ∀ l, (f l).bankInUse = l.bankInUse)
    (kind : StartKind) (slip : StartSlip) (w : List Bool) :
    SameBanks (s.takeActive i) (((t.mapLane i f).takeActive i).startFrame i kind slip w) :=
  ((h.trans (SameBanks.mapLane t i f hf)).takeActive i).trans (SameBanks.startFrame _ i kind slip w)

/-- Every sync evaluation in CHECK takes the bank (R25). -/
theorem takes_evaluateCheck (s : State) (i : LaneId) : SameBanks (s.takeActive i) (s.evaluateCheck i) := by
  unfold State.evaluateCheck State.gainLock
  dsimp only
  split
  · split
    · exact (takes_startFrame (.refl s) (fun l => { l with engine := { l.engine with
        good := l.engine.good + 1, bad := 0, lock := .lock } }) (fun _ => rfl) _ _ _).thenPost _ _
    · refine SameBanks.takeActive ?_ i
      exact .mapLane s i _ fun _ => rfl
  · exact takes_failToSearch (.refl s)

theorem takes_acceptSync (s : State) (i : LaneId) (c : StartSlip) (w : List Bool) :
    SameBanks (s.takeActive i) (s.acceptSync i c w) := by
  have hslip : ∀ l : LaneState, (l.acceptSlip c).bankInUse = l.bankInUse := by
    intro l
    cases c <;> rfl
  exact takes_startFrame ((SameBanks.mapLane s i _ hslip).trans (SameBanks.endFrame _ i _))
    (fun l => { l with engine := { l.engine with lock := .lock, bad := 0 } }) (fun _ => rfl) _ _ _

theorem takes_rejectSync (s : State) (i : LaneId) (w : List Bool) :
    SameBanks (s.takeActive i) (s.rejectSync i w) := by
  have hend : SameBanks s ((s.mapLane i fun l => { l with engine := { l.engine with late := none } }).endFrame i
      .unconfirmed) := .after (.endFrame _ i _) (.mapLane s i _ fun _ => rfl)
  unfold State.rejectSync
  dsimp only
  split
  · have hcoast := takes_startFrame (i := i) hend (fun l => { l with engine := { l.engine with
      lock := .coast, bad := (s.lane i).engine.badNext } }) (fun _ => rfl) .coast .none w
    split
    · exact hcoast.thenPost _ _
    · exact hcoast
  · exact (takes_failToSearch hend).thenPost _ _

theorem takes_completeLate (s : State) (i : LaneId) (tol : Nat) :
    SameBanks (s.takeActive i) (s.completeLate i tol) := by
  unfold State.completeLate
  dsimp only
  split
  · exact takes_acceptSync s i _ _
  · exact takes_rejectSync s i _

end Takes

/-! ### What a happening of one lane does to its bank -/

/-- A happening of lane `i` leaves every bank in use and leaves an aligned lane aligned, or lane `i` has taken the
ACTIVE bank. -/
inductive BankMove (i : LaneId) (s t : State) : Prop
  | stays : SameBanks s t → (Aligned (s.lane i) → Aligned (t.lane i)) → BankMove i s t
  | takes : SameBanks (s.takeActive i) t → BankMove i s t

namespace BankMove

variable {s t u : State} {i : LaneId}

theorem refl (i : LaneId) (s : State) : BankMove i s s := .stays (.refl s) id

/-- A move that starts with another update of the lane. -/
theorem after (k : BankMove i t u) (h : SameBanks s t) (ha : Aligned (s.lane i) → Aligned (t.lane i)) :
    BankMove i s u := by
  cases k with
  | stays e hu => exact .stays (h.trans e) (hu ∘ ha)
  | takes e => exact .takes ((h.takeActive i).trans e)

theorem searchBit (s : State) (i : LaneId) : BankMove i s (s.searchBit i) := by
  unfold State.searchBit State.searchMatch
  dsimp only
  split
  · split
    · exact refl i s
    · split
      · refine .stays (.setLane s i _ rfl) fun _ => ?_
        rw [State.lane_setLane_self]
        exact .inl rfl
      · refine .stays (.after (.post _ _ _) (.setLane s i _ rfl)) fun _ => ?_
        rw [State.lane_post, State.lane_setLane_self]
        exact .inl rfl
  · exact refl i s

theorem afterAdvance (k : BankMove i (s.advanceBit i) u) : BankMove i s u := by
  refine k.after (.advanceBit s i) fun ha => ?_
  rw [lane_advanceBit]
  exact ha

theorem checkBit (s : State) (i : LaneId) : BankMove i s (s.checkBit i) := by
  unfold State.checkBit
  dsimp only
  split
  · exact afterAdvance (.takes (takes_evaluateCheck _ i))
  · exact afterAdvance (refl i _)

theorem evaluateLock (s : State) (i : LaneId) : BankMove i s (s.evaluateLock i) := by
  unfold State.evaluateLock
  dsimp only
  split
  · exact .takes (takes_acceptSync s i _ _)
  · split
    · split
      · exact .takes (takes_acceptSync s i _ _)
      · refine .stays (.mapLane s i _ fun _ => rfl) fun ha => ?_
        rw [State.lane_mapLane_self]
        exact ha
    · exact .takes (takes_rejectSync s i _)

theorem sliceWord (s : State) (i : LaneId) : BankMove i s (s.sliceWord i) := by
  unfold State.sliceWord
  dsimp only
  split
  · refine .stays (.wordNotice s i _ _) fun ha => ?_
    rwa [Aligned, engine_wordNotice]
  · exact refl i s

theorem lockBit (s : State) (i : LaneId) : BankMove i s (s.lockBit i) := by
  unfold State.lockBit
  dsimp only
  split
  · exact afterAdvance (.takes (takes_completeLate _ i _))
  · split
    · exact afterAdvance (evaluateLock _ i)
    · exact afterAdvance (sliceWord _ i)

theorem engineBit (s : State) (i : LaneId) : BankMove i s (s.engineBit i) := by
  unfold State.engineBit
  split
  · exact refl i s
  · exact searchBit s i
  · exact checkBit s i
  · exact lockBit s i
  · exact lockBit s i

/-- An update of the lane's intake. -/
theorem afterIntake (f : Intake → Intake) (k : BankMove i (s.mapLane i fun l => { l with intake := f l.intake }) u) :
    BankMove i s u := by
  refine k.after (.mapLane s i _ fun _ => rfl) fun ha => ?_
  rw [State.lane_mapLane_self]
  exact ha

theorem takeBit (i : LaneId) (b : Bool) (s : State) : BankMove i s (takeBit i b s) := by
  unfold Machine.takeBit
  split
  · exact afterIntake (Intake.push b) (engineBit _ i)
  · exact refl i s

theorem returnToSearch (s : State) (i : LaneId) : BankMove i s (s.returnToSearch i) := by
  have lost : BankMove i s (s.loseLock i) := .takes ((takes_enterSearch (.abandon s i)).thenPost _ _)
  unfold State.returnToSearch
  split
  · exact refl i s
  · exact refl i s
  · exact .takes (takes_enterSearch (.refl s))
  · exact lost
  · exact lost

theorem expireSilence (s : State) (i : LaneId) : BankMove i s (s.expireSilence i) := by
  refine afterIntake (fun x => { x with silent := true }) ((returnToSearch _ i).after (.post _ _ _) fun ha => ?_)
  rwa [State.lane_post]

theorem startLane (i : LaneId) (s : State) : BankMove i s (startLane i s).2 := by
  unfold Machine.startLane
  split
  · exact refl i s
  · split
    · refine .takes (.takeActive ?_ i)
      exact .after (.mapLane _ i _ fun _ => rfl) (.mapLane s i _ fun _ => rfl)
    · exact refl i s

theorem stopLane (i : LaneId) (s : State) : BankMove i s (stopLane i s).2 := by
  unfold Machine.stopLane
  split
  · refine .takes (.takeActive ?_ i)
    exact .after (.mapLane _ i _ fun _ => rfl) (.abandon s i)
  · exact .takes (.refl _)

theorem resyncLane (i : LaneId) (s : State) : BankMove i s (resyncLane i s).2 := by
  unfold Machine.resyncLane
  split
  · exact returnToSearch s i
  · exact refl i s

end BankMove

end Sys2Proof

namespace Sys2Proof

open Sys2Proof.Machine

/-! ### What leaves every bank in use and every lock state alone -/

/-- `t` has the banks in use of `s`, the swap and copy in progress, and the lock states. -/
structure SameSwap (s t : State) : Prop extends SameBanks s t where
  lock : ∀ j, (t.lane j).engine.lock = (s.lane j).engine.lock

namespace SameSwap

variable {s t u : State}

theorem of_lanes (e : t.lanes = s.lanes) (p : t.tables.progress = s.tables.progress) : SameSwap s t :=
  ⟨.of_lanes e p, fun j => by simp [State.lane, e]⟩

theorem refl (s : State) : SameSwap s s := of_lanes rfl rfl

theorem trans (h : SameSwap s t) (k : SameSwap t u) : SameSwap s u :=
  ⟨h.toSameBanks.trans k.toSameBanks, fun j => (k.lock j).trans (h.lock j)⟩

theorem post (s : State) (c : Cause) (src : Byte) : SameSwap s (s.post c src) :=
  ⟨.post s c src, fun j => by rw [State.lane_post]⟩

theorem thenPost (h : SameSwap s t) (c : Cause) (src : Byte) : SameSwap s (t.post c src) := h.trans (post t c src)

theorem refuseConfig (s : State) : SameSwap s s.refuseConfig := post s _ _

/-- An update of one lane's intake. -/
theorem mapIntake (s : State) (i : LaneId) (f : Intake → Intake) :
    SameSwap s (s.mapLane i fun l => { l with intake := f l.intake }) := by
  refine ⟨.mapLane s i _ fun _ => rfl, fun j => ?_⟩
  rw [State.lane_mapLane]
  split <;> rfl

theorem countTick (s : State) : SameSwap s s.countTick := by
  refine ⟨⟨fun j => ?_, rfl⟩, fun j => ?_⟩ <;> rw [State.lane_countTick, LaneState.countSilence_eq]

/-! #### Reads (R154, R164) -/

theorem popQueue (s : State) (q : QueueId) : SameSwap s (s.popQueue q).2 := by
  rcases s.popQueue_cases q with ⟨-, e⟩ | ⟨_, _, -, -, e⟩ <;> rw [e] <;> exact of_lanes rfl rfl

theorem popPort (s : State) (n : PortId) : SameSwap s (s.popPort n) := by
  unfold State.popPort
  split
  · exact of_lanes rfl rfl
  · exact (popQueue s _).trans (of_lanes rfl rfl)

theorem readTrdata (s : State) : SameSwap s (readTrdata s).2 := by
  unfold Machine.readTrdata
  split
  · exact of_lanes rfl rfl
  · split <;> exact of_lanes rfl rfl

theorem readQdata (k : Fin 4) (s : State) : SameSwap s (readQdata k s).2 := by
  unfold Machine.readQdata
  split
  · exact (popQueue s _).trans (of_lanes rfl rfl)
  · exact refl s

theorem readDdata (n : PortId) (k : Fin 4) (s : State) : SameSwap s (readDdata n k s).2 := by
  unfold Machine.readDdata
  dsimp only
  split
  · exact (popPort s n).trans (of_lanes rfl rfl)
  · exact of_lanes rfl rfl

theorem readAck (n : PortId) (s : State) : SameSwap s (readAck n s).2 := by
  unfold Machine.readAck
  dsimp only
  split
  · exact (popPort s n).trans (of_lanes rfl rfl)
  · exact of_lanes rfl rfl

theorem readRdata (k : Fin 16) (s : State) : SameSwap s (readRdata k s).2 := by
  unfold Machine.readRdata
  split
  · split <;> exact of_lanes rfl rfl
  · exact refl s

theorem readTime (k : Fin 6) (s : State) : SameSwap s (readTime k s).2 := by
  unfold Machine.readTime
  split
  · split <;> exact of_lanes rfl rfl
  · exact refl s

theorem readAdata (k : Fin 5) (s : State) : SameSwap s (readAdata k s).2 := by
  unfold Machine.readAdata
  split
  · split <;> exact of_lanes rfl rfl
  · exact refl s

theorem readReg (r : Reg) (s : State) : SameSwap s (readReg r s).2 := by
  cases r with
  | lslip => exact mapIntake s s.lsel fun x => { x with slip := 0 }
  | trdata => exact readTrdata s
  | qdata k => exact readQdata k s
  | ddata n k => exact readDdata n k s
  | rdata k => exact readRdata k s
  | timeByte k => exact readTime k s
  | adata k => exact readAdata k s
  | lseq h => cases h <;> exact of_lanes rfl rfl
  | twidx h => cases h <;> exact of_lanes rfl rfl
  | tridx h => cases h <;> exact of_lanes rfl rfl
  | qdepth h => cases h <;> exact of_lanes rfl rfl
  | qlost h => cases h <;> exact of_lanes rfl rfl
  | poolfree h => cases h <;> exact of_lanes rfl rfl
  | _ => exact of_lanes rfl rfl

/-! #### Writes and commands (R154, R126) -/

/-- A write that is taken where its value is in range, and refused elsewhere. -/
theorem ite_refuse {p : Prop} [Decidable p] (h : p → SameSwap s t) :
    SameSwap s (if p then t else s.refuseConfig) := by
  split
  · next hp => exact h hp
  · exact refuseConfig s

theorem dite_refuse {p : Prop} [Decidable p] {f : p → State} (h : ∀ hp, SameSwap s (f hp)) :
    SameSwap s (if hp : p then f hp else s.refuseConfig) := by
  split
  · next hp => exact h hp
  · exact refuseConfig s

/-- R96, R97: a commit writes the edit bank alone, and ends at its refusal otherwise. -/
theorem writeTwdata (v : Byte) (s : State) : SameSwap s (writeTwdata v s) := by
  unfold Machine.writeTwdata State.commitRecord
  dsimp only
  split
  · split
    · refine thenPost ?_ _ _
      exact of_lanes rfl rfl
    · exact of_lanes rfl rfl
  · exact of_lanes rfl rfl

theorem writePdata (v : Byte) (s : State) : SameSwap s (writePdata v s) := by
  unfold Machine.writePdata
  split
  · exact (refuseConfig s).trans (of_lanes rfl rfl)
  · exact (mapIntake s s.lsel (Intake.storeByte s.pidx v)).trans (of_lanes rfl rfl)

/-- Every write but one of CMD. -/
theorem writeReg (r : Reg) (v : Byte) (s : State) (hr : r ≠ .cmd) : SameSwap s (writeReg r v s) := by
  cases r with
  | cmd => exact absurd rfl hr
  | pdata => exact writePdata v s
  | twdata => exact writeTwdata v s
  | lsel => exact dite_refuse fun _ => of_lanes rfl rfl
  | pidx => exact dite_refuse fun _ => of_lanes rfl rfl
  | qsel => exact dite_refuse fun _ => of_lanes rfl rfl
  | qmode => exact ite_refuse fun _ => of_lanes rfl rfl
  | twidx h =>
    cases h with
    | low => exact of_lanes rfl rfl
    | high => exact dite_refuse fun _ => of_lanes rfl rfl
  | tridx h =>
    cases h with
    | low => exact of_lanes rfl rfl
    | high => exact dite_refuse fun _ => of_lanes rfl rfl
  | qquota h =>
    cases h with
    | low => exact of_lanes rfl rfl
    | high => exact ite_refuse fun _ => of_lanes rfl rfl
  | qthr h =>
    cases h with
    | low => exact of_lanes rfl rfl
    | high => exact ite_refuse fun _ => of_lanes rfl rfl
  | trbank =>
    simp only [Machine.writeReg, writeTrbank]
    split
    · exact of_lanes rfl rfl
    · exact ite_refuse fun _ => of_lanes rfl rfl
  | dbind n =>
    simp only [Machine.writeReg, writeDbind]
    split
    · exact of_lanes rfl rfl
    · exact ite_refuse fun _ => of_lanes rfl rfl
  | _ => exact of_lanes rfl rfl

theorem holdQueue (q : QueueId) (s : State) : SameSwap s (holdQueue q s).2 := by
  unfold Machine.holdQueue
  split <;> exact of_lanes rfl rfl

end SameSwap

/-! ### What a command can be -/

/-- The outcomes that a command can have in `s`: an event, an access to one register, an acknowledge read, an access
that has no effect, or a reset. -/
inductive Happening (s : State) : Host.Outcome State Fault Refusal → Prop
  | takeBit (i : LaneId) (b : Bool) : Happening s (act (takeBit i b) s)
  | tick : Happening s (act takeTick s)
  | silence (i : LaneId) : Happening s (act (silenceEvent i) s)
  | copy : Happening s (act copyOne s)
  /-- A write of a register, CMD among them. -/
  | write (r : Reg) (v : Byte) : Happening s (act (writeReg r v) s)
  | read (r : Reg) : Happening s (answer (readReg r) s)
  | acknowledge (n : PortId) : Happening s (answer (readAck n) s)
  /-- A strobe that reaches no register (R154, R155). -/
  | noEffect : Happening s (act id s)
  /-- Both acknowledge inputs low (R155). -/
  | readNothing : Happening s (answer (fun t => (0, t)) s)
  | reset : Happening s (.next (resetAsserted s))
  | release : Happening s (.next (resetReleased s))

theorem hostAccess_happening (strobe : HostStrobe) (a : Addr) (v : Byte) (s : State) :
    Happening s (hostAccess strobe a v s) := by
  cases strobe with
  | write => exact .write (decodeAddr a) v
  | read => exact .read (decodeAddr a)
  | readAndWrite => exact .noEffect
  | unselected => exact .noEffect

theorem ackAccess_happening (strobe : AckStrobe) (s : State) : Happening s (ackAccess strobe s) := by
  cases strobe with
  | read n => exact .acknowledge n
  | readBoth => exact .readNothing
  | write => exact .noEffect
  | readAndWrite => exact .noEffect
  | noStrobe => exact .noEffect

/-- A command with a register of its own is the write or the read of that register. -/
theorem exec_happening (c : Instr) (s : State) : Happening s (exec c s) := by
  cases c with
  | takeBit i b => exact .takeBit i b
  | tick => exact .tick
  | silenceExpiry i => exact .silence i
  | copyStep => exact .copy
  | hardwareReset => exact .reset
  | resetRelease => exact .release
  | laneStart => exact .write .cmd 0x01
  | laneStop => exact .write .cmd 0x02
  | laneResync => exact .write .cmd 0x03
  | tableSwap => exact .write .cmd 0x10
  | tableCopy => exact .write .cmd 0x11
  | queueOpen => exact .write .cmd 0x20
  | queueHold => exact .write .cmd 0x21
  | queueDisable => exact .write .cmd 0x22
  | timeLatch => exact .write .cmd 0x30
  | timeLoad => exact .write .cmd 0x31
  | recordsFlush => exact .write .cmd 0x40
  | softReset => exact .write .cmd 0x7F
  | commandBadCode code => exact .write .cmd code
  | lselWrite v => exact .write .lsel v
  | pidxWrite v => exact .write .pidx v
  | pdataRead => exact .read .pdata
  | pdataWrite v => exact .write .pdata v
  | lslipRead => exact .read .lslip
  | lseqRead half => exact .read (.lseq half)
  | twidxWrite half v => exact .write (.twidx half) v
  | twidxRead half => exact .read (.twidx half)
  | twdataWrite v => exact .write .twdata v
  | tridxWrite half v => exact .write (.tridx half) v
  | tridxRead half => exact .read (.tridx half)
  | trbankWrite v => exact .write .trbank v
  | trdataRead => exact .read .trdata
  | qselWrite v => exact .write .qsel v
  | qquotaWrite half v => exact .write (.qquota half) v
  | qthrWrite half v => exact .write (.qthr half) v
  | qmodeWrite v => exact .write .qmode v
  | qdepthRead half => exact .read (.qdepth half)
  | qlostRead half => exact .read (.qlost half)
  | poolfreeRead half => exact .read (.poolfree half)
  | qdataRead k => exact .read (.qdata k)
  | dbindWrite n v => exact .write (.dbind n) v
  | ddataRead n k => exact .read (.ddata n k)
  | dmaAcknowledgeRead strobe => exact ackAccess_happening strobe s
  | rdataRead k => exact .read (.rdata k)
  | rlossRead => exact .read .rloss
  | timeRead k => exact .read (.timeByte k)
  | adataRead k => exact .read (.adata k)
  | registerWrite strobe a v => exact hostAccess_happening strobe a v s

/-! ### TABLE_SWAP, TABLE_COPY and copy steps, case by case (R100, R103, R104) -/

section SwapAndCopy

variable {s : State}

theorem aligned_iff (l : LaneState) : Aligned l ↔ l.engine.lock ≠ .off ∧ l.engine.lock ≠ .search := by
  cases h : l.engine.lock <;> simp [Aligned, h]

/-- TABLE_SWAP, before its end is reported or its flag set (R100, steps 1 to 3). -/
def switched (s : State) : State :=
  { s with tables.active := s.tables.edit, lanes := s.lanes.map (LaneState.swapTo s.tables.edit) }

theorem lane_switched (s : State) (j : LaneId) : (switched s).lane j = (s.lane j).swapTo s.tables.edit := by
  simp [State.lane, switched]

theorem lock_switched (s : State) (j : LaneId) : ((switched s).lane j).engine.lock = (s.lane j).engine.lock := by
  rw [lane_switched, LaneState.swapTo]
  split <;> rfl

/-- The lanes that TABLE_SWAP leaves pending: aligned ones that do not use the new ACTIVE bank. -/
theorem swapPending_switched (s : State) (j : LaneId) :
    (switched s).swapPending j = true ↔ Aligned (s.lane j) ∧ (s.lane j).bankInUse ≠ s.tables.edit := by
  rw [State.swapPending_iff, lane_switched, LaneState.swapTo, aligned_iff, ← not_or]
  split
  · next h => simp [h, switched]
  · next h => simp [h, switched]

theorem not_noLanePending_iff (s : State) : ¬s.noLanePending = true ↔ ∃ j, s.swapPending j = true := by
  simp [State.noLanePending]

theorem swapTables_busy (h : s.tables.swapping = true ∨ s.tables.copying = true) :
    swapTables s = (.refused .busy, s) := by
  rw [swapTables, if_pos (by simpa using h)]

theorem swapTables_ends (hs : s.tables.swapping = false) (hc : s.tables.copying = false)
    (hnone : ¬∃ j, (switched s).swapPending j = true) :
    swapTables s = (.started, (switched s).post .swapDone deviceSource) := by
  rw [← not_noLanePending_iff, not_not] at hnone
  rw [swapTables, if_neg (by simp [hs, hc])]
  exact if_pos hnone

theorem swapTables_starts (hs : s.tables.swapping = false) (hc : s.tables.copying = false)
    (hsome : ∃ j, (switched s).swapPending j = true) :
    swapTables s = (.started, { switched s with tables.swapping := true }) := by
  rw [← not_noLanePending_iff] at hsome
  rw [swapTables, if_neg (by simp [hs, hc])]
  exact if_neg hsome

theorem copyTables_busy (h : s.tables.swapping = true ∨ s.tables.copying = true) :
    copyTables s = (.refused .busy, s) := by
  rw [copyTables, if_pos (by simpa using h)]

theorem copyTables_starts (hs : s.tables.swapping = false) (hc : s.tables.copying = false) :
    copyTables s = (.started, { s with
      tables.copying := true, tables.copyAborted := false, tables.copyIdx := 0 }) := by
  rw [copyTables, if_neg (by simp [hs, hc])]

/-- The banks once the record at the copy index has been copied (R104). -/
def copiedRam (t : TableStore) : Memory := t.ram.writeRecord t.edit t.copyIdx (t.ram.readRecord t.active t.copyIdx)

theorem copyOne_idle (h : s.tables.copying = false) : copyOne s = s := by
  simp [copyOne, h]

theorem copyOne_goes (h : s.tables.copying = true) (hx : s.tables.copyIdx ≠ 259) :
    copyOne s = { s with tables.ram := copiedRam s.tables, tables.copyIdx := s.tables.copyIdx + 1 } := by
  have hlast : ¬s.tables.copyIdx + 1 = Config.bankRecords := by simpa [Config.bankRecords] using hx
  simp only [copyOne, h, hlast, if_true, if_false]
  rfl

theorem copyOne_ends (h : s.tables.copying = true) (hx : s.tables.copyIdx = 259) :
    copyOne s = { s with
      tables.ram := copiedRam s.tables, tables.copyIdx := 260, tables.copying := false }.post .copyDone
        deviceSource := by
  simp only [copyOne, h, hx, Config.bankRecords, copiedRam, if_true]

end SwapAndCopy

/-! ### Swap and copy stay sound (R93, R100 to R104) -/

namespace SwapOk

variable {s t : State}

theorem of_sameSwap (h : SwapOk s) (k : SameSwap s t) : SwapOk t where
  flag := by simpa only [k.swapping, k.swapPending] using h.flag
  aligned j := by simpa only [k.swapPending, k.lock] using h.aligned j
  exclusive := by simpa only [k.copying, k.swapping] using h.exclusive
  progress := by simpa only [k.copying, k.copyIdx] using h.progress

/-- A lane that takes the ACTIVE bank clears the flag exactly when it is the last pending one. -/
theorem flag_takeActive (h : SwapOk s) (i : LaneId) :
    (s.takeActive i).tables.swapping = true ↔ ∃ j, (s.takeActive i).swapPending j = true := by
  by_cases hi : (s.lane i).bankInUse = s.tables.active
  · rw [State.takeActive_of_eq hi]
    exact h.flag
  have hbank (j : LaneId) : (s.takeActive i).swapPending j = true ↔ j ≠ i ∧ (s.lane j).bankInUse ≠ s.tables.active := by
    rw [State.swapPending_iff, State.lane_takeActive, State.takeActive_active]
    split <;> simp [*]
  simp only [hbank]
  by_cases hothers : ∀ j, j ≠ i → (s.lane j).bankInUse = s.tables.active
  · rw [takeActive_last hi hothers]
    simpa using hothers
  · have hmore : ∃ j, j ≠ i ∧ (s.lane j).bankInUse ≠ s.tables.active := by simpa using hothers
    rw [takeActive_one hi hmore]
    exact iff_of_true (h.flag.2 ⟨i, (s.swapPending_iff i).2 hi⟩) hmore

/-- A happening of one lane that moves its bank by the rules. -/
theorem of_bankMove (h : SwapOk s) {i : LaneId} (k : LaneFrame i s t) (m : BankMove i s t) : SwapOk t := by
  have hcopy : t.tables.copying = s.tables.copying := by rw [k.tables]
  have hidx : t.tables.copyIdx = s.tables.copyIdx := by rw [k.tables]
  have hprogress : t.tables.copying = true → t.tables.copyIdx < 260 := by rw [hcopy, hidx]; exact h.progress
  cases m with
  | stays e ha =>
    refine ⟨by simpa only [e.swapping, e.swapPending] using h.flag, fun j hj => ?_,
      by simpa only [e.copying, e.swapping] using h.exclusive, hprogress⟩
    rw [e.swapPending] at hj
    by_cases hji : j = i
    · subst hji
      exact ha (h.aligned j hj)
    · rw [k.others j hji]
      exact h.aligned j hj
  | takes e =>
    have hflag : t.tables.swapping = true ↔ ∃ j, t.swapPending j = true := by
      simpa only [e.swapping, e.swapPending] using h.flag_takeActive i
    have hpending (j : LaneId) (hj : t.swapPending j = true) : j ≠ i ∧ s.swapPending j = true := by
      rw [e.swapPending, State.swapPending_iff, State.lane_takeActive, State.takeActive_active] at hj
      split at hj
      · simp at hj
      · next hji => exact ⟨hji, (s.swapPending_iff j).2 hj⟩
    refine ⟨hflag, fun j hj => ?_, fun hc => ?_, hprogress⟩
    · obtain ⟨hji, hs⟩ := hpending j hj
      rw [k.others j hji]
      exact h.aligned j hs
    · rw [hcopy] at hc
      by_contra hsw
      obtain ⟨j, hj⟩ := hflag.1 (by simpa using hsw)
      have hswapping := h.flag.2 ⟨j, (hpending j hj).2⟩
      rw [h.exclusive hc] at hswapping
      cases hswapping

/-! #### The table store's commands and both resets -/

/-- A state without a swap and without a pending lane. -/
theorem of_noSwap (hs : t.tables.swapping = false) (hb : ∀ j, (t.lane j).bankInUse = t.tables.active)
    (hx : t.tables.copying = true → t.tables.copyIdx < 260) : SwapOk t := by
  have hnone : ∀ j, ¬t.swapPending j = true := fun j => by rw [State.swapPending_iff, not_not]; exact hb j
  exact ⟨by simp [hs, hnone], fun j hj => absurd hj (hnone j), fun _ => hs, hx⟩

/-- TABLE_SWAP sets the flag exactly if it leaves a lane pending, and such a lane is aligned (R100). -/
theorem swapTables (h : SwapOk s) : SwapOk (swapTables s).2 := by
  by_cases hbusy : s.tables.swapping = true ∨ s.tables.copying = true
  · rw [swapTables_busy hbusy]
    exact h
  obtain ⟨hs, hc⟩ : s.tables.swapping = false ∧ s.tables.copying = false := by simpa using hbusy
  by_cases hsome : ∃ j, (switched s).swapPending j = true
  · rw [swapTables_starts hs hc hsome]
    refine ⟨iff_of_true rfl hsome, fun j hj => ?_, fun k => ?_, fun k => ?_⟩
    · have hlock := (aligned_iff _).1 ((swapPending_switched s j).1 hj).1
      rw [← lock_switched] at hlock
      exact (aligned_iff _).2 hlock
    · cases hc.symm.trans k
    · cases hc.symm.trans k
  · rw [swapTables_ends hs hc hsome]
    refine of_sameSwap (s := switched s) (of_noSwap hs (fun j => ?_) fun k => ?_) (.post _ _ _)
    · rw [← not_not (a := _ = _), ← ne_eq, ← State.swapPending_iff]
      exact fun k => hsome ⟨j, k⟩
    · cases hc.symm.trans k

/-- Without a swap in progress a copy may start, and no lane is then pending (R103). -/
theorem copyTables (h : SwapOk s) : SwapOk (copyTables s).2 := by
  by_cases hbusy : s.tables.swapping = true ∨ s.tables.copying = true
  · rw [copyTables_busy hbusy]
    exact h
  obtain ⟨hs, hc⟩ : s.tables.swapping = false ∧ s.tables.copying = false := by simpa using hbusy
  rw [copyTables_starts hs hc]
  exact of_noSwap hs (h.bankInUse hs) fun _ => Nat.zero_lt_succ 259

theorem copyOne (h : SwapOk s) : SwapOk (copyOne s) := by
  cases hc : s.tables.copying with
  | false => rw [copyOne_idle hc]; exact h
  | true =>
    have hs := h.exclusive hc
    have hx := h.progress hc
    by_cases hlast : s.tables.copyIdx = 259
    · rw [copyOne_ends hc hlast]
      refine of_sameSwap (of_noSwap ?_ ?_ ?_) (.post _ _ _)
      · exact hs
      · exact h.bankInUse hs
      · exact fun k => by cases k
    · rw [copyOne_goes hc hlast]
      refine of_noSwap hs (h.bankInUse hs) fun _ => ?_
      change s.tables.copyIdx + 1 < 260
      omega

theorem softResetAll (s : State) : SwapOk (softResetAll s).2 :=
  of_noSwap rfl (fun j => by simp [State.lane, Machine.softResetAll, LaneState.softReset, TableStore.softReset])
    fun k => by cases k

theorem resetAsserted (s : State) : SwapOk (resetAsserted s) :=
  of_noSwap rfl (fun j => by rw [lane_resetAsserted]; rfl) fun k => by cases k

/-! #### Every command -/

theorem takeTick (h : SwapOk s) : SwapOk (takeTick s) :=
  takeTick_keeps s SwapOk (fun s k => k.of_sameSwap (.countTick s)) (fun _ _ k => k.of_sameSwap (.of_lanes rfl rfl))
    (fun s i k => k.of_bankMove (.expireSilence i s) (.expireSilence s i)) h

theorem silenceEvent (h : SwapOk s) (i : LaneId) : SwapOk (silenceEvent i s) := by
  rcases silenceEvent_cases s i with ⟨-, e⟩ | ⟨-, e⟩ <;> rw [e]
  · exact h.takeTick
  · exact h

theorem command (h : SwapOk s) (code : Byte) (owner : State → CmdStatus × State)
    (ho : ∀ s, SwapOk s → SwapOk (owner s).2) : SwapOk (command code owner s) :=
  command_keeps SwapOk (fun _ _ _ k => k.of_sameSwap (.of_lanes rfl rfl)) code owner ho s h

theorem laneCommand (h : SwapOk s) (code : Byte) (f : LaneId → State → CmdStatus × State)
    (hf : ∀ i s, LaneFrame i s (f i s).2) (hm : ∀ i s, BankMove i s (f i s).2) :
    SwapOk (Machine.command code (withLane f) s) :=
  h.command code _ (withLane_keeps SwapOk f fun i s k => k.of_bankMove (hf i s) (hm i s))

theorem queueCommand (h : SwapOk s) (code : Byte) (f : QueueId → State → CmdStatus × State)
    (hf : ∀ q s, SameSwap s (f q s).2) : SwapOk (Machine.command code (withQueue f) s) :=
  h.command code _ (withQueue_keeps SwapOk f fun q s k => k.of_sameSwap (hf q s))

/-- A command that reaches no lane and no table. -/
theorem plainCommand (h : SwapOk s) (code : Byte) (owner : State → CmdStatus × State)
    (ho : ∀ s, SameSwap s (owner s).2) : SwapOk (Machine.command code owner s) :=
  h.command code owner fun s k => k.of_sameSwap (ho s)

theorem issueCommand (h : SwapOk s) (code : Byte) : SwapOk (issueCommand code s) := by
  unfold Machine.issueCommand
  split
  · exact h.laneCommand _ _ LaneFrame.startLane BankMove.startLane
  · exact h.laneCommand _ _ LaneFrame.stopLane BankMove.stopLane
  · exact h.laneCommand _ _ LaneFrame.resyncLane BankMove.resyncLane
  · exact h.command _ _ fun _ => swapTables
  · exact h.command _ _ fun _ => copyTables
  · exact h.queueCommand _ openQueue fun _ _ => .of_lanes rfl rfl
  · exact h.queueCommand _ _ SameSwap.holdQueue
  · exact h.queueCommand _ disableQueue fun _ _ => .of_lanes rfl rfl
  · exact h.plainCommand _ latchTime fun _ => .of_lanes rfl rfl
  · exact h.plainCommand _ loadTime fun _ => .of_lanes rfl rfl
  · exact h.plainCommand _ flushRecords fun _ => .of_lanes rfl rfl
  · exact h.command _ _ fun s _ => softResetAll s
  · exact h.plainCommand code _ SameSwap.refl

theorem writeReg (h : SwapOk s) (r : Reg) (v : Byte) : SwapOk (writeReg r v s) := by
  by_cases hr : r = .cmd
  · rw [hr]
    exact h.issueCommand v
  · exact h.of_sameSwap (.writeReg r v s hr)

theorem act (h : SwapOk s) {f : State → State} (hf : ∀ s, SwapOk s → SwapOk (f s)) (e : act f s = .next t) :
    SwapOk t :=
  act_keeps SwapOk (fun _ _ k => k.of_sameSwap (.of_lanes rfl rfl)) f hf s t h e

theorem answer (h : SwapOk s) {f : State → Byte × State} (hf : ∀ s, SameSwap s (f s).2) (e : answer f s = .next t) :
    SwapOk t :=
  answer_keeps SwapOk (fun _ _ k => k.of_sameSwap (.of_lanes rfl rfl)) f (fun s k => k.of_sameSwap (hf s)) s t h e

theorem happening (h : SwapOk s) {o : Host.Outcome State Fault Refusal} (k : Happening s o) (e : o = .next t) :
    SwapOk t := by
  cases k with
  | takeBit i b => exact h.act (fun s k => k.of_bankMove (.takeBit i s b) (.takeBit i b s)) e
  | tick => exact h.act (fun _ => takeTick) e
  | silence i => exact h.act (fun _ k => k.silenceEvent i) e
  | copy => exact h.act (fun _ => copyOne) e
  | write r v => exact h.act (fun _ k => k.writeReg r v) e
  | read r => exact h.answer (SameSwap.readReg r) e
  | acknowledge n => exact h.answer (SameSwap.readAck n) e
  | noEffect => exact h.act (f := id) (fun _ k => k) e
  | readNothing => exact h.answer (f := fun u => (0, u)) SameSwap.refl e
  | reset => cases e; exact resetAsserted s
  | release => cases e; exact h.of_sameSwap (.of_lanes rfl rfl)

end SwapOk

/-- Settles O57: each command keeps it, and so does taking the command from the queue. -/
theorem swapStaysSound : Obligations.SwapStaysSound := by
  unfold Obligations.SwapStaysSound
  intro s t h e
  unfold step at e
  split at e
  · cases e
    exact h
  · next c rest _ =>
    have hrest : SwapOk { s with pending := rest } := h.of_sameSwap (.of_lanes rfl rfl)
    exact hrest.happening (exec_happening c _) e

end Sys2Proof

namespace Sys2Proof

open Sys2Proof.Machine

/-! ### TABLE_SWAP, TABLE_COPY and copy steps (R100, R103, R104) -/

/-- A command that names no lane and no queue reports the status of its owner. -/
theorem command_up {s : State} (code : Byte) (owner : State → CmdStatus × State) (hup : s.resetLow = false) :
    act (command code owner) s = .next { (owner s).2 with clast := code, cstat := (owner s).1, dataOut := none } :=
  act_up _ s hup

/-- Settles O29, by whether a swap or a copy runs and whether a lane is left pending. -/
theorem tableSwapCommand : Obligations.TableSwapCommand := by
  unfold Obligations.TableSwapCommand
  intro s hup b moved pending
  have hexec : exec .tableSwap s = .next { (swapTables s).2 with
      clast := 0x10, cstat := (swapTables s).1, dataOut := none } := command_up 0x10 swapTables hup
  have hpending : pending ↔ ∃ j, (switched s).swapPending j = true := by
    simp only [swapPending_switched, aligned_iff, and_assoc]
    rfl
  refine ⟨fun hbusy => ?_, fun hs hc hp => ?_, fun hs hc hp => ?_⟩
  · rw [hexec, swapTables_busy hbusy]
  · rw [hexec, swapTables_starts hs hc (hpending.1 hp)]
    rfl
  · rw [hexec, swapTables_ends hs hc (mt hpending.2 hp)]
    rfl

/-- Settles O30, by whether a swap or a copy runs. -/
theorem tableCopyCommand : Obligations.TableCopyCommand := by
  unfold Obligations.TableCopyCommand
  intro s hup
  have hexec : exec .tableCopy s = .next { (copyTables s).2 with
      clast := 0x11, cstat := (copyTables s).1, dataOut := none } := command_up 0x11 copyTables hup
  refine ⟨fun hbusy => ?_, fun hs hc => ?_⟩
  · rw [hexec, copyTables_busy hbusy]
  · rw [hexec, copyTables_starts hs hc]

/-- The record at the copy index reads in the edit bank as it did in the ACTIVE bank. -/
theorem read_copiedRam (t : TableStore) (h : t.ram.wf = true) (k : Fin 6) :
    (copiedRam t).read (recordAddr t.edit t.copyIdx k) = t.ram.read (recordAddr t.active t.copyIdx k) := by
  rw [copiedRam, Memory.read_writeRecord_self _ _ _ _ _ h]
  simp [Memory.readRecord]

/-- Settles O25, by the copy state and the copy index. -/
theorem copyStepCopiesRecord : Obligations.CopyStepCopiesRecord := by
  unfold Obligations.CopyStepCopiesRecord
  intro s hup hwf
  have hexec : exec .copyStep s = .next { copyOne s with dataOut := none } := act_up copyOne s hup
  refine ⟨fun hc => ?_, fun hc => ⟨copiedRam s.tables, read_copiedRam s.tables hwf,
    fun a => Memory.read_writeRecord_ne _ _ _ a _, fun hx => ?_, fun hx => ?_⟩⟩
  · rw [hexec, copyOne_idle hc]
  · rw [hexec, copyOne_goes hc hx]
  · rw [hexec, copyOne_ends hc hx]
    rfl

/-! ### The table port (R94 to R99) -/

/-- The cursor value that a high byte forms (R94): its bit 0 above the byte held. -/
theorem formed9_eq (hi lo : Byte) : formed9 hi lo = hi.toNat % 2 * 256 + lo.toNat := by
  have hlo := lo.isLt
  rw [formed9, BitVec.toNat_append, ← Nat.shiftLeft_add_eq_or_of_lt hlo, Nat.shiftLeft_eq, BitVec.extractLsb'_toNat,
    Nat.shiftRight_zero]

section Cursors

variable {s : State} {v : Byte}

theorem writeTwidx_high (x : Fin 260) (h : formed9 v s.tables.wLow = x.val) :
    writeTwidx .high v s =
      { s with tables.wIdx := x, tables.wByte := 0, tables.wStage := Vector.replicate 6 0 } := by
  have hlt : formed9 v s.tables.wLow < 260 := h ▸ x.isLt
  have he : (⟨formed9 v s.tables.wLow, hlt⟩ : Fin 260) = x := Fin.ext h
  simp only [writeTwidx, hlt, dite_true, he]

theorem writeTwidx_refused (h : 260 ≤ formed9 v s.tables.wLow) : writeTwidx .high v s = s.refuseConfig :=
  dif_neg (Nat.not_lt.2 h)

theorem writeTridx_high (x : Fin 260) (h : formed9 v s.tables.rLow = x.val) :
    writeTridx .high v s = { s with tables.rIdx := x, tables.rByte := 0 } := by
  have hlt : formed9 v s.tables.rLow < 260 := h ▸ x.isLt
  have he : (⟨formed9 v s.tables.rLow, hlt⟩ : Fin 260) = x := Fin.ext h
  simp only [writeTridx, hlt, dite_true, he]

theorem writeTridx_refused (h : 260 ≤ formed9 v s.tables.rLow) : writeTridx .high v s = s.refuseConfig :=
  dif_neg (Nat.not_lt.2 h)

end Cursors

/-- Settles O38: each access is the write or the read of its cursor. -/
theorem tableCursors : Obligations.TableCursors := by
  unfold Obligations.TableCursors
  intro s v hup refused w r
  have write : ∀ f : State → State, act f s = .next { f s with dataOut := none } := fun f => act_up f s hup
  have read : ∀ f : State → Byte × State, answer f s = .next { (f s).2 with dataOut := some (f s).1 } :=
    fun f => answer_up f s hup
  have hw : formed9 v s.tables.wLow = w := formed9_eq v _
  have hr : formed9 v s.tables.rLow = r := formed9_eq v _
  refine ⟨write (writeTwidx .low v), fun x hx => ?_, fun hx => ?_, read (readTwidx .low), read (readTwidx .high),
    write (writeTridx .low v), fun x hx => ?_, fun hx => ?_, read (readTridx .low), read (readTridx .high)⟩
  · rw [show exec (.twidxWrite .high v) s = _ from write (writeTwidx .high v), writeTwidx_high x (hw.trans hx)]
    rfl
  · rw [show exec (.twidxWrite .high v) s = _ from write (writeTwidx .high v), writeTwidx_refused (hw ▸ hx)]
    rfl
  · rw [show exec (.tridxWrite .high v) s = _ from write (writeTridx .high v), writeTridx_high x (hr.trans hx)]
  · rw [show exec (.tridxWrite .high v) s = _ from write (writeTridx .high v), writeTridx_refused (hr ▸ hx)]
    rfl

section Commit

variable {s : State} {v : Byte}

theorem writeTwdata_staged (h : s.tables.wByte ≠ 5) :
    writeTwdata v s = { s with
      tables.wStage := s.tables.wStage.set s.tables.wByte v, tables.wByte := s.tables.wByte + 1 } :=
  if_neg h

theorem writeTwdata_refused (h : s.tables.wByte = 5) (hbusy : s.tables.swapping = true ∨ s.tables.copying = true) :
    writeTwdata v s = { s with tables.wByte := 0, tables.wStage := Vector.replicate 6 0 }.post .tableRefused
      deviceSource := by
  rw [writeTwdata, if_pos h, State.commitRecord, if_pos (by simpa using hbusy)]

/-- The banks once the staged record, with its last byte, has been committed at TWIDX (R96, R97). -/
def committedRam (t : TableStore) (v : Byte) : Memory :=
  t.ram.writeRecord t.edit t.wIdx.val (storedRecord t.wIdx.val (t.wStage.set 5 v))

theorem writeTwdata_committed (h : s.tables.wByte = 5) (hs : s.tables.swapping = false)
    (hc : s.tables.copying = false) :
    writeTwdata v s = { s with
      tables.ram := committedRam s.tables v, tables.wIdx := nextIdx s.tables.wIdx, tables.wByte := 0,
      tables.wStage := Vector.replicate 6 0 } := by
  rw [writeTwdata, if_pos h, State.commitRecord, if_neg (by simp [hs, hc])]
  rfl

/-- The bytes of a selection entry, without the bits of byte 5 that no field has (R170). -/
theorem storedRecord_entry {x : Nat} (hx : x ≤ 255) (g : Vector Byte 6) (v : Byte) :
    storedRecord x (g.set 5 v) = #v[g[0], g[1], g[2], g[3], g[4], v &&& 0x80] := by
  have hlt : x < Config.bankEntries := Nat.lt_succ_of_le hx
  simp [storedRecord, hlt]

/-- The bytes of a directory record: its base and its 9-bit count (R170). -/
theorem storedRecord_directory {x : Nat} (hx : 256 ≤ x) (g : Vector Byte 6) (v : Byte) :
    storedRecord x (g.set 5 v) = #v[g[0], g[1], g[2] &&& 1, 0, 0, 0] := by
  have hge : ¬x < Config.bankEntries := Nat.not_lt.2 hx
  simp [storedRecord, hge]

end Commit

/-- Settles O39, by the write byte index, and at byte 5 by whether a swap or a copy runs. -/
theorem tableCommit : Obligations.TableCommit := by
  unfold Obligations.TableCommit
  intro s v hup hwf g x b
  have hexec : exec (.twdataWrite v) s = .next { writeTwdata v s with dataOut := none } := act_up _ s hup
  refine ⟨fun k hk h5 => ?_, fun h5 hbusy => ?_, fun h5 hs hc =>
    ⟨committedRam s.tables v, fun hx => ?_, fun hx => ?_, fun a => Memory.read_writeRecord_ne _ _ _ a _, ?_⟩⟩
  · subst hk
    rw [hexec, writeTwdata_staged h5]
  · rw [hexec, writeTwdata_refused h5 hbusy]
    rfl
  · exact (Memory.readRecord_writeRecord_self _ _ _ _ hwf).trans (storedRecord_entry hx g v)
  · exact (Memory.readRecord_writeRecord_self _ _ _ _ hwf).trans (storedRecord_directory hx g v)
  · rw [hexec, writeTwdata_committed h5 hs hc, nextIdx_eq]
    rfl

section Reads

variable {s : State} {v : Byte}

theorem writeTrbank_refused (h : 2 ≤ v.toNat) : writeTrbank v s = s.refuseConfig := by
  have h0 : v ≠ 0 := by bv_omega
  have h1 : v ≠ 1 := by bv_omega
  rw [writeTrbank, if_neg h0, if_neg h1]

theorem readTrdata_first (h : s.tables.rByte = 0) :
    readTrdata s = ((s.tables.ram.readRecord s.tables.rBank s.tables.rIdx.val)[0], { s with
      tables.rHold := s.tables.ram.readRecord s.tables.rBank s.tables.rIdx.val, tables.rByte := 1 }) :=
  if_pos h

theorem readTrdata_last (h : s.tables.rByte = 5) :
    readTrdata s = (s.tables.rHold[5], { s with tables.rByte := 0, tables.rIdx := nextIdx s.tables.rIdx }) := by
  rw [readTrdata, if_neg (by rw [h]; decide), if_pos h]

theorem readTrdata_middle (h0 : s.tables.rByte ≠ 0) (h5 : s.tables.rByte ≠ 5) :
    readTrdata s = (s.tables.rHold[s.tables.rByte], { s with tables.rByte := s.tables.rByte + 1 }) := by
  rw [readTrdata, if_neg h0, if_neg h5]
  rfl

end Reads

/-- Settles O40: TRBANK by its value, and TRDATA by the read byte index. -/
theorem tablePortReads : Obligations.TablePortReads := by
  unfold Obligations.TablePortReads
  intro s v hup r
  have hwrite : exec (.trbankWrite v) s = .next { writeTrbank v s with dataOut := none } := act_up _ s hup
  have hread : exec .trdataRead s = .next { (readTrdata s).2 with dataOut := some (readTrdata s).1 } :=
    answer_up _ s hup
  refine ⟨fun hv => ?_, fun hv => ?_, fun hv => ?_, fun h0 => ?_, fun k hk h1 h4 => ?_, fun h5 => ?_⟩
  · rw [hwrite, hv]
    rfl
  · rw [hwrite, hv]
    rfl
  · rw [hwrite, writeTrbank_refused hv]
    rfl
  · rw [hread, readTrdata_first h0]
  · subst hk
    rw [hread, readTrdata_middle (fun e => by simp [e] at h1) (fun e => by simp [e] at h4)]
  · rw [hread, readTrdata_last h5, nextIdx_eq]
    rfl

end Sys2Proof

namespace Sys2Proof

open Sys2Proof.Machine

/-! ### The pool after an update of one queue (R110) -/

/-- What `PoolOk` says of each queue by itself. -/
structure QueueFits (v : Queue) : Prop where
  depth : v.depth ≤ v.quota
  disabled : v.state = .disabled → v.entries = []
  quota : v.quota ≤ 1024
  threshold : 1 ≤ v.threshold ∧ v.threshold ≤ 1024

/-- An emptied queue fits, with the quota and the threshold of one that does. -/
theorem QueueFits.empty {v w : Queue} (h : QueueFits w) (he : v.entries = []) (hq : v.quota = w.quota)
    (ht : v.threshold = w.threshold) : QueueFits v where
  depth := by simp [Queue.depth, he]
  disabled _ := he
  quota := hq ▸ h.quota
  threshold := ht ▸ h.threshold

/-- A queue that is not DISABLED may hold any entries that its quota admits. -/
theorem QueueFits.entries {w : Queue} (h : QueueFits w) {es : List WordRecord} (hs : w.state ≠ .disabled)
    (hl : es.length ≤ w.quota) : QueueFits { w with entries := es } where
  depth := hl
  disabled e := absurd e hs
  quota := h.quota
  threshold := h.threshold

theorem totalDepth_eq_sum (s : State) : totalDepth s = ∑ q, (s.queue q).depth :=
  (Fin.sum_univ_def _).symm

/-- Replacing a queue moves the total by the difference of the two depths. -/
theorem totalDepth_setQueue (s : State) (q : QueueId) (v : Queue) :
    totalDepth (s.setQueue q v) + (s.queue q).depth = totalDepth s + v.depth := by
  have hdepths : (fun r => ((s.setQueue q v).queue r).depth) =
      Function.update (fun r => (s.queue r).depth) q v.depth := by
    funext r
    rw [State.queue_setQueue, Function.update_apply]
    split <;> rfl
  rw [totalDepth_eq_sum, totalDepth_eq_sum, hdepths, Finset.sum_update_of_mem (Finset.mem_univ q),
    Finset.sum_eq_add_sum_sdiff_singleton_of_mem (Finset.mem_univ q) fun r => (s.queue r).depth]
  omega

/-! ### Operations that leave the queue block alone -/

theorem queues_takeActive (s : State) (i : LaneId) : (s.takeActive i).queues = s.queues := by
  rcases s.takeActive_cases i with ⟨-, e⟩ | ⟨-, -, e⟩ | ⟨-, -, e⟩ <;> rw [e]
  · rfl
  · exact State.post_queues _ _ _

theorem queues_stageWord (s : State) (i : LaneId) (x : Staged) : (s.stageWord i x).queues = s.queues := by
  unfold State.stageWord
  dsimp only
  split
  · rfl
  · split
    · rfl
    · exact State.post_queues _ _ _

theorem queues_offerRecord (s : State) (mode : BitVec 2) (r : FrameRecord) :
    (s.offerRecord mode r).queues = s.queues := by
  rcases s.offerRecord_cases mode r with ⟨-, e⟩ | ⟨-, -, e⟩ | ⟨-, -, e⟩ <;> rw [e]
  exact State.post_queues _ _ _

theorem queues_swapTables (s : State) : (swapTables s).2.queues = s.queues := by
  unfold swapTables
  dsimp only
  split
  · rfl
  · split
    · exact State.post_queues _ _ _
    · rfl

theorem queues_copyTables (s : State) : (copyTables s).2.queues = s.queues := by
  unfold copyTables
  split <;> rfl

theorem queues_copyOne (s : State) : (copyOne s).queues = s.queues := by
  unfold copyOne
  dsimp only
  split
  · split
    · exact State.post_queues _ _ _
    · rfl
  · rfl

theorem queues_writeTwdata (v : Byte) (s : State) : (writeTwdata v s).queues = s.queues := by
  unfold writeTwdata State.commitRecord
  dsimp only
  split
  · split
    · exact State.post_queues _ _ _
    · rfl
  · rfl

theorem queues_writePdata (v : Byte) (s : State) : (writePdata v s).queues = s.queues := by
  unfold writePdata
  split
  · exact State.post_queues _ _ _
  · rfl

theorem queues_readTrdata (s : State) : (readTrdata s).2.queues = s.queues := by
  unfold readTrdata
  split
  · rfl
  · split <;> rfl

theorem queues_readRdata (k : Fin 16) (s : State) : (readRdata k s).2.queues = s.queues := by
  unfold readRdata
  split
  · split <;> rfl
  · rfl

theorem queues_readTime (k : Fin 6) (s : State) : (readTime k s).2.queues = s.queues := by
  unfold readTime
  split
  · split <;> rfl
  · rfl

theorem queues_readAdata (k : Fin 5) (s : State) : (readAdata k s).2.queues = s.queues := by
  unfold readAdata
  split
  · split <;> rfl
  · rfl

/-! ### The pool stays conserved (R110, R112, R113) -/

namespace PoolOk

variable {s t : State}

theorem fits (h : PoolOk s) (q : QueueId) : QueueFits (s.queue q) :=
  ⟨h.depth q, h.disabled q, h.quota q, h.threshold q⟩

theorem of_fits (ht : totalDepth s + s.queues.free = 1024) (hq : ∀ q, QueueFits (s.queue q)) : PoolOk s :=
  ⟨ht, fun q => (hq q).depth, fun q => (hq q).disabled, fun q => (hq q).quota, fun q => (hq q).threshold⟩

/-- The free count and the eight queues are all that it speaks of. -/
theorem of_pool (h : PoolOk s) (hf : t.queues.free = s.queues.free) (hq : t.queues.queue = s.queues.queue) :
    PoolOk t := by
  have hqueue : ∀ q, t.queue q = s.queue q := fun q => by simp [State.queue, hq]
  refine of_fits ?_ fun q => hqueue q ▸ h.fits q
  rw [← h.total, hf, totalDepth, totalDepth]
  simp only [hqueue]

theorem of_queues (h : PoolOk s) (e : t.queues = s.queues) : PoolOk t :=
  h.of_pool (by rw [e]) (by rw [e])

theorem post (h : PoolOk s) (c : Cause) (src : Byte) : PoolOk (s.post c src) := h.of_queues (State.post_queues s c src)

/-- What one queue gives up, the pool takes back, and the other way round. -/
theorem exchange (h : PoolOk s) (q : QueueId) {v : Queue} {n : Nat} (hv : QueueFits v)
    (hn : v.depth + n = (s.queue q).depth + s.queues.free) :
    PoolOk { s.setQueue q v with queues.free := n } := by
  refine of_fits ?_ fun r => ?_
  · have htotal := h.total
    have hmove : totalDepth (s.setQueue q v) + (s.queue q).depth = totalDepth s + v.depth := totalDepth_setQueue s q v
    change totalDepth (s.setQueue q v) + n = 1024
    omega
  · change QueueFits ((s.setQueue q v).queue r)
    rw [State.queue_setQueue]
    split
    · exact hv
    · exact h.fits r

/-- An update of one queue that keeps its depth leaves the pool alone. -/
theorem setQueue (h : PoolOk s) (q : QueueId) {v : Queue} (hv : QueueFits v) (hd : v.depth = (s.queue q).depth) :
    PoolOk (s.setQueue q v) :=
  h.exchange q (n := s.queues.free) hv (by rw [hd])

/-! #### Appends and pops (R116 to R123) -/

theorem loseWord (h : PoolOk s) (q : QueueId) : PoolOk (s.loseWord q) := by
  have hfits : QueueFits { s.queue q with lost := satInc (s.queue q).lost } := { h.fits q with }
  exact post (h.setQueue q hfits rfl) _ _

/-- An append takes one slot, below the queue's quota and from a pool that is not empty (R116). -/
theorem appendWord (h : PoolOk s) {q : QueueId} (r : WordRecord) (hs : (s.queue q).state = .opened)
    (hroom : (s.queue q).depth < (s.queue q).quota) (hfree : 0 < s.queues.free) : PoolOk (s.appendWord q r) := by
  have hlen : ((s.queue q).entries ++ [r]).length = (s.queue q).depth + 1 := by simp [Queue.depth]
  have hfits : QueueFits { s.queue q with entries := (s.queue q).entries ++ [r] } :=
    (h.fits q).entries (by simp [hs]) (hlen ▸ hroom)
  rw [State.appendWord_eq]
  refine (h.exchange q (n := s.queues.free - 1) hfits ?_).of_queues rfl
  change ((s.queue q).entries ++ [r]).length + (s.queues.free - 1) = _
  omega

/-- An eviction puts one entry in the place of another (R117). -/
theorem evictWord (h : PoolOk s) {q : QueueId} {x : WordRecord} {rest : List WordRecord} (r : WordRecord)
    (hs : (s.queue q).state = .opened) (he : (s.queue q).entries = x :: rest) : PoolOk (s.evictWord q rest r) := by
  have hlen : (rest ++ [r]).length = (s.queue q).depth := by simp [Queue.depth, he]
  exact (h.setQueue q ((h.fits q).entries (by simp [hs]) (hlen ▸ h.depth q)) hlen).loseWord q

theorem offerWord (h : PoolOk s) (q : QueueId) (r : WordRecord) : PoolOk (s.offerWord q r).2 := by
  rcases s.offerWord_cases q r with
    ⟨-, e⟩ | ⟨-, e⟩ | ⟨hs, hroom, hfree, e⟩ | ⟨hs, -, ⟨x, rest, -, he, e⟩ | ⟨-, e⟩⟩ <;> rw [e]
  · exact h
  · exact h.loseWord q
  · exact h.appendWord r hs hroom hfree
  · exact h.evictWord r hs he
  · exact h.loseWord q

/-- A pop gives one slot back to the pool (R120). -/
theorem popQueue (h : PoolOk s) (q : QueueId) : PoolOk (s.popQueue q).2 := by
  rcases s.popQueue_cases q with ⟨-, e⟩ | ⟨r, rest, hs, he, e⟩ <;> rw [e]
  · exact h
  · have hlen : (s.queue q).depth = rest.length + 1 := by simp [Queue.depth, he]
    have hdepth := h.depth q
    refine h.exchange q ((h.fits q).entries hs (by omega)) ?_
    change rest.length + (s.queues.free + 1) = _
    omega

theorem popPort (h : PoolOk s) (n : PortId) : PoolOk (s.popPort n) := by
  unfold State.popPort
  split
  · exact h.of_pool rfl rfl
  · exact (h.popQueue _).of_pool rfl rfl

/-! #### A lane's happenings -/

theorem keptByLanePieces (i : LaneId) : KeptByLanePieces i PoolOk where
  setLane _ _ _ h := h.of_queues rfl
  post _ c _ h := h.post c _
  takeActive s h := h.of_queues (queues_takeActive s i)
  deliver _ q r h := (h.offerWord q r).of_queues rfl
  stageWord s x h := h.of_queues (queues_stageWord s i x)
  offerRecord s mode r h := h.of_queues (queues_offerRecord s mode r)

theorem takeTick (h : PoolOk s) : PoolOk (takeTick s) :=
  takeTick_keeps s PoolOk (fun _ k => k.of_queues rfl) (fun _ _ k => k.of_queues rfl)
    (fun _ i k => (keptByLanePieces i).expireSilence k) h

theorem silenceEvent (h : PoolOk s) (i : LaneId) : PoolOk (silenceEvent i s) := by
  rcases silenceEvent_cases s i with ⟨-, e⟩ | ⟨-, e⟩ <;> rw [e]
  · exact h.takeTick
  · exact h

/-! #### Reads (R154, R164) -/

theorem readQlost (h : PoolOk s) (k : Half) : PoolOk (readQlost k s).2 := by
  cases k with
  | low =>
    have hfits : QueueFits { s.selQueue with lost := 0 } := { h.fits s.queues.qsel with }
    exact (h.setQueue s.queues.qsel hfits rfl).of_pool rfl rfl
  | high => exact h

theorem readQdata (h : PoolOk s) (k : Fin 4) : PoolOk (readQdata k s).2 := by
  unfold Machine.readQdata
  split
  · exact (h.popQueue _).of_pool rfl rfl
  · exact h

theorem readDdata (h : PoolOk s) (n : PortId) (k : Fin 4) : PoolOk (readDdata n k s).2 := by
  unfold Machine.readDdata
  dsimp only
  split
  · exact (h.popPort n).of_pool rfl rfl
  · exact h.of_pool rfl rfl

theorem readReg (h : PoolOk s) (r : Reg) : PoolOk (readReg r s).2 := by
  cases r with
  | qlost k => exact h.readQlost k
  | qdata k => exact h.readQdata k
  | ddata n k => exact h.readDdata n k
  | trdata => exact h.of_queues (queues_readTrdata s)
  | rdata k => exact h.of_queues (queues_readRdata k s)
  | timeByte k => exact h.of_queues (queues_readTime k s)
  | adata k => exact h.of_queues (queues_readAdata k s)
  | lseq k => cases k <;> exact h.of_pool rfl rfl
  | twidx k => cases k <;> exact h.of_pool rfl rfl
  | tridx k => cases k <;> exact h.of_pool rfl rfl
  | qdepth k => cases k <;> exact h.of_pool rfl rfl
  | poolfree k => cases k <;> exact h.of_pool rfl rfl
  | _ => exact h.of_pool rfl rfl

/-! #### Queue commands and resets (R125 to R127, R130) -/

theorem openQueue (h : PoolOk s) (q : QueueId) : PoolOk (openQueue q s).2 :=
  h.setQueue q { h.fits q with disabled := nofun } rfl

theorem holdQueue (h : PoolOk s) (q : QueueId) : PoolOk (holdQueue q s).2 := by
  unfold Machine.holdQueue
  split
  · exact h.setQueue q { h.fits q with disabled := nofun } rfl
  · exact h
  · exact h

/-- QUEUE_DISABLE gives every slot of the queue back (R127). -/
theorem disableQueue (h : PoolOk s) (q : QueueId) : PoolOk (disableQueue q s).2 := by
  refine h.exchange q ((h.fits q).empty rfl rfl rfl) ?_
  change 0 + (s.queues.free + (s.queue q).depth) = _
  omega

/-- With every queue empty the pool is full (R130, R161). -/
theorem of_empty (he : ∀ q, (s.queue q).entries = []) (hf : s.queues.free = 1024)
    (hq : ∀ q, QueueFits (s.queue q)) : PoolOk s := by
  refine of_fits ?_ hq
  simp [totalDepth_eq_sum, Queue.depth, he, hf]

theorem softResetAll (h : PoolOk s) : PoolOk (softResetAll s).2 := by
  have hqueue : ∀ q, (Machine.softResetAll s).2.queue q = (s.queue q).softReset := by
    intro q
    simp [Machine.softResetAll, QueueBlock.softReset, State.queue]
  refine of_empty (fun q => ?_) rfl fun q => ?_
  · rw [hqueue]
    rfl
  · rw [hqueue]
    exact (h.fits q).empty rfl rfl rfl

theorem resetAsserted (s : State) : PoolOk (resetAsserted s) := by
  have hqueue : ∀ q, (Machine.resetAsserted s).queue q = Queue.reset := by
    intro q
    simp [Machine.resetAsserted, State.reset, QueueBlock.reset, State.queue]
  refine of_empty (fun q => ?_) rfl fun q => ?_
  · rw [hqueue]
    rfl
  · rw [hqueue]
    exact ⟨Nat.le_refl 0, fun _ => rfl, Nat.zero_le 1024, by decide⟩

theorem command (h : PoolOk s) (code : Byte) (owner : State → CmdStatus × State)
    (ho : ∀ s, PoolOk s → PoolOk (owner s).2) : PoolOk (command code owner s) :=
  command_keeps PoolOk (fun _ _ _ k => k.of_queues rfl) code owner ho s h

theorem issueCommand (h : PoolOk s) (code : Byte) : PoolOk (issueCommand code s) := by
  unfold Machine.issueCommand
  split
  · exact h.command _ _ (withLane_keeps _ _ fun i _ k => (keptByLanePieces i).startLane k)
  · exact h.command _ _ (withLane_keeps _ _ fun i _ k => (keptByLanePieces i).stopLane k)
  · exact h.command _ _ (withLane_keeps _ _ fun i _ k => (keptByLanePieces i).resyncLane k)
  · exact h.command _ _ fun s k => k.of_queues (queues_swapTables s)
  · exact h.command _ _ fun s k => k.of_queues (queues_copyTables s)
  · exact h.command _ _ (withQueue_keeps _ _ fun q _ k => k.openQueue q)
  · exact h.command _ _ (withQueue_keeps _ _ fun q _ k => k.holdQueue q)
  · exact h.command _ _ (withQueue_keeps _ _ fun q _ k => k.disableQueue q)
  · exact h.command _ latchTime fun _ k => k.of_queues rfl
  · exact h.command _ loadTime fun _ k => k.of_queues rfl
  · exact h.command _ flushRecords fun _ k => k.of_queues rfl
  · exact h.command _ _ fun _ k => k.softResetAll
  · exact h.command code _ fun _ k => k

/-! #### Writes (R154, R164) -/

/-- A write that is taken where its value is in range, and refused elsewhere. -/
theorem ite_refuse (h : PoolOk s) {p : Prop} [Decidable p] (ht : p → PoolOk t) :
    PoolOk (if p then t else s.refuseConfig) := by
  split
  · next hp => exact ht hp
  · exact h.post _ _

theorem dite_refuse (h : PoolOk s) {p : Prop} [Decidable p] {f : p → State} (hf : ∀ hp, PoolOk (f hp)) :
    PoolOk (if hp : p then f hp else s.refuseConfig) := by
  split
  · next hp => exact hf hp
  · exact h.post _ _

/-- R112: a quota is written while the queue is DISABLED, and so empty. -/
theorem writeQquota (h : PoolOk s) (k : Half) (v : Byte) : PoolOk (writeQquota k v s) := by
  cases k with
  | low => exact h.of_pool rfl rfl
  | high =>
    refine h.ite_refuse fun ⟨hs, hle⟩ => ?_
    have hempty : s.selQueue.depth = 0 := List.length_eq_zero_iff.2 (h.disabled _ hs)
    exact h.setQueue _ { h.fits s.queues.qsel with depth := le_of_eq_of_le hempty (Nat.zero_le _), quota := hle } rfl

/-- R113. -/
theorem writeQthr (h : PoolOk s) (k : Half) (v : Byte) : PoolOk (writeQthr k v s) := by
  cases k with
  | low => exact h.of_pool rfl rfl
  | high => exact h.ite_refuse fun hthr => h.setQueue _ { h.fits s.queues.qsel with threshold := hthr } rfl

/-- R114. -/
theorem writeQmode (h : PoolOk s) (v : Byte) : PoolOk (writeQmode v s) :=
  h.ite_refuse fun _ => h.setQueue _ { h.fits s.queues.qsel with } rfl

theorem writeReg (h : PoolOk s) (r : Reg) (v : Byte) : PoolOk (writeReg r v s) := by
  cases r with
  | cmd => exact h.issueCommand v
  | qquota k => exact h.writeQquota k v
  | qthr k => exact h.writeQthr k v
  | qmode => exact h.writeQmode v
  | pdata => exact h.of_queues (queues_writePdata v s)
  | twdata => exact h.of_queues (queues_writeTwdata v s)
  | lsel => exact h.dite_refuse fun _ => h.of_pool rfl rfl
  | pidx => exact h.dite_refuse fun _ => h.of_pool rfl rfl
  | qsel => exact h.dite_refuse fun _ => h.of_pool rfl rfl
  | twidx k =>
    cases k with
    | low => exact h.of_pool rfl rfl
    | high => exact h.dite_refuse fun _ => h.of_pool rfl rfl
  | tridx k =>
    cases k with
    | low => exact h.of_pool rfl rfl
    | high => exact h.dite_refuse fun _ => h.of_pool rfl rfl
  | trbank =>
    simp only [Machine.writeReg, writeTrbank]
    split
    · exact h.of_pool rfl rfl
    · exact h.ite_refuse fun _ => h.of_pool rfl rfl
  | dbind n =>
    simp only [Machine.writeReg, writeDbind]
    split
    · exact h.of_pool rfl rfl
    · exact h.ite_refuse fun _ => h.of_pool rfl rfl
  | _ => exact h.of_pool rfl rfl

/-! #### Every command -/

theorem act (h : PoolOk s) {f : State → State} (hf : ∀ s, PoolOk s → PoolOk (f s)) (e : act f s = .next t) :
    PoolOk t :=
  act_keeps PoolOk (fun _ _ k => k.of_queues rfl) f hf s t h e

theorem answer (h : PoolOk s) {f : State → Byte × State} (hf : ∀ s, PoolOk s → PoolOk (f s).2)
    (e : answer f s = .next t) : PoolOk t :=
  answer_keeps PoolOk (fun _ _ k => k.of_queues rfl) f hf s t h e

theorem happening (h : PoolOk s) {o : Host.Outcome State Fault Refusal} (k : Happening s o) (e : o = .next t) :
    PoolOk t := by
  cases k with
  | takeBit i b => exact h.act (fun _ k => (keptByLanePieces i).takeBit k b) e
  | tick => exact h.act (fun _ => takeTick) e
  | silence i => exact h.act (fun _ k => k.silenceEvent i) e
  | copy => exact h.act (fun s k => k.of_queues (queues_copyOne s)) e
  | write r v => exact h.act (fun _ k => k.writeReg r v) e
  | read r => exact h.answer (fun _ k => k.readReg r) e
  | acknowledge n => exact h.answer (fun s k => k.readDdata n (s.port n).idx) e
  | noEffect => exact h.act (f := id) (fun _ k => k) e
  | readNothing => exact h.answer (f := fun u => (0, u)) (fun _ k => k) e
  | reset => cases e; exact resetAsserted s
  | release => cases e; exact h.of_queues rfl

end PoolOk

/-- Settles O56: each command keeps it, and so does taking the command from the queue. -/
theorem poolIsConserved : Obligations.PoolIsConserved := by
  unfold Obligations.PoolIsConserved
  intro s t h e
  unfold step at e
  split at e
  · cases e
    exact h
  · next c rest _ =>
    have hrest : PoolOk { s with pending := rest } := h.of_queues rfl
    exact hrest.happening (exec_happening c _) e

end Sys2Proof

namespace Sys2Proof

open Sys2Proof.Machine

/-! ### Queue commands (R125 to R127) -/

section QueueCommands

variable {s : State} {q : QueueId}

/-- A queue command of the queue that CARG names reports the status of its owner. -/
theorem queueCommand_up (code : Byte) (f : QueueId → State → CmdStatus × State) (hup : s.resetLow = false)
    (hq : s.carg.toNat = q.val) :
    act (command code (withQueue f)) s =
      .next { (f q s).2 with clast := code, cstat := (f q s).1, dataOut := none } := by
  have hlt : s.carg.toNat < 8 := hq ▸ q.isLt
  have he : (⟨s.carg.toNat, hlt⟩ : QueueId) = q := Fin.ext hq
  rw [act_up _ s hup, command, withQueue_of_lt f s hlt, he]

theorem holdQueue_opened (h : (s.queue q).state = .opened) :
    holdQueue q s = (.done, s.setQueue q { s.queue q with state := .held }) := by
  simp only [holdQueue, h]

theorem holdQueue_held (h : (s.queue q).state = .held) : holdQueue q s = (.done, s) := by
  simp only [holdQueue, h]

theorem holdQueue_disabled (h : (s.queue q).state = .disabled) : holdQueue q s = (.refused .wrongState, s) := by
  simp only [holdQueue, h]

end QueueCommands

/-- Settles O31: QUEUE_OPEN and QUEUE_DISABLE in any state of the queue, QUEUE_HOLD by that state. -/
theorem queueCommands : Obligations.QueueCommands := by
  unfold Obligations.QueueCommands
  intro s q hup hq v
  have hhold : exec .queueHold s = .next { (holdQueue q s).2 with
      clast := 0x21, cstat := (holdQueue q s).1, dataOut := none } := queueCommand_up 0x21 holdQueue hup hq
  refine ⟨queueCommand_up 0x20 openQueue hup hq, fun hs => ?_, fun hs => ?_, fun hs => ?_,
    queueCommand_up 0x22 disableQueue hup hq⟩
  · rw [hhold, holdQueue_opened hs]
  · rw [hhold, holdQueue_held hs]
  · rw [hhold, holdQueue_disabled hs]

/-! ### QSEL, QQUOTA, QTHR, QMODE (R111 to R114) -/

/-- The value that a high byte forms (R112): its low three bits above the byte held. -/
theorem formed11_eq (hi lo : Byte) : formed11 hi lo = hi.toNat % 8 * 256 + lo.toNat := by
  have hlo := lo.isLt
  rw [formed11, BitVec.toNat_append, ← Nat.shiftLeft_add_eq_or_of_lt hlo, Nat.shiftLeft_eq, BitVec.extractLsb'_toNat,
    Nat.shiftRight_zero]

section QueueSettings

variable {s : State} {v : Byte}

theorem writeQsel_of_eq (q : QueueId) (h : v.toNat = q.val) : writeQsel v s = { s with queues.qsel := q } := by
  have hlt : v.toNat < 8 := h ▸ q.isLt
  have he : (⟨v.toNat, hlt⟩ : QueueId) = q := Fin.ext h
  simp only [writeQsel, hlt, dite_true, he]

theorem writeQsel_refused (h : 8 ≤ v.toNat) : writeQsel v s = s.refuseConfig := dif_neg (Nat.not_lt.2 h)

theorem writeQquota_high (hs : s.selQueue.state = .disabled) (h : formed11 v s.queues.quotaLow ≤ 1024) :
    writeQquota .high v s = s.setSelQueue { s.selQueue with quota := formed11 v s.queues.quotaLow } :=
  if_pos ⟨hs, h⟩

theorem writeQquota_refused (h : s.selQueue.state ≠ .disabled ∨ 1025 ≤ formed11 v s.queues.quotaLow) :
    writeQquota .high v s = s.refuseConfig :=
  if_neg fun ⟨hs, hle⟩ => h.elim (fun hn => hn hs) (Nat.not_le.2 (Nat.lt_succ_of_le hle))

theorem writeQthr_high (h1 : 1 ≤ formed11 v s.queues.thrLow) (h : formed11 v s.queues.thrLow ≤ 1024) :
    writeQthr .high v s = s.setSelQueue { s.selQueue with threshold := formed11 v s.queues.thrLow } :=
  if_pos ⟨h1, h⟩

theorem writeQthr_refused (h : formed11 v s.queues.thrLow = 0 ∨ 1025 ≤ formed11 v s.queues.thrLow) :
    writeQthr .high v s = s.refuseConfig := by
  refine if_neg fun ⟨h1, hle⟩ => ?_
  rw [Config.poolSlots] at hle
  omega

theorem writeQmode_taken (h : s.selQueue.state = .disabled ∨ policyOf v = s.selQueue.policy) :
    writeQmode v s = s.setSelQueue { s.selQueue with policy := policyOf v, drain := v.getLsbD 3 } :=
  if_pos h

theorem writeQmode_refused (hs : s.selQueue.state ≠ .disabled) (hp : policyOf v ≠ s.selQueue.policy) :
    writeQmode v s = s.refuseConfig :=
  if_neg (not_or.2 ⟨hs, hp⟩)

end QueueSettings

/-- Settles O41: each register takes the byte, or refuses it and posts CONFIG_REFUSED. -/
theorem queueSettingsWritten : Obligations.QueueSettingsWritten := by
  unfold Obligations.QueueSettingsWritten
  intro s v hup q refused quota thr policy
  have write : ∀ f : State → State, act f s = .next { f s with dataOut := none } := fun f => act_up f s hup
  have hsel : exec (.qselWrite v) s = .next { writeQsel v s with dataOut := none } := write _
  have hquota : exec (.qquotaWrite .high v) s = .next { writeQquota .high v s with dataOut := none } := write _
  have hthr : exec (.qthrWrite .high v) s = .next { writeQthr .high v s with dataOut := none } := write _
  have hmode : exec (.qmodeWrite v) s = .next { writeQmode v s with dataOut := none } := write _
  have hformedQ : formed11 v s.queues.quotaLow = quota := formed11_eq v _
  have hformedT : formed11 v s.queues.thrLow = thr := formed11_eq v _
  refine ⟨fun n hn => ?_, fun hv => ?_, write (writeQquota .low v), fun hs hle => ?_, fun h => ?_,
    write (writeQthr .low v), fun h1 hle => ?_, fun h => ?_, fun h => ?_, fun hs hp => ?_⟩
  · rw [hsel, writeQsel_of_eq n hn]
  · rw [hsel, writeQsel_refused hv]
    rfl
  · rw [hquota, writeQquota_high hs (hformedQ ▸ hle), hformedQ]
    rfl
  · rw [hquota, writeQquota_refused (hformedQ ▸ h)]
    rfl
  · rw [hthr, writeQthr_high (hformedT ▸ h1) (hformedT ▸ hle), hformedT]
    rfl
  · rw [hthr, writeQthr_refused (hformedT ▸ h)]
    rfl
  · rw [hmode, writeQmode_taken h]
    rfl
  · rw [hmode, writeQmode_refused hs hp]
    rfl

/-! ### QDEPTH, QLOST, POOLFREE (R115, R119) -/

/-- Settles O42: each access is the read that its register defines. -/
theorem queueCountsRead : Obligations.QueueCountsRead := by
  unfold Obligations.QueueCountsRead
  intro s hup q d f
  have read : ∀ f : State → Byte × State, answer f s = .next { (f s).2 with dataOut := some (f s).1 } :=
    fun f => answer_up f s hup
  exact ⟨read (readQdepth .low), read (readQdepth .high), read (readQlost .low), read (readQlost .high),
    read (readPoolfree .low), read (readPoolfree .high)⟩

/-! ### Pops (R120, R121, R171) -/

/-- The flag byte of a word record, field by field (R171). -/
theorem flagByte_fields (l : BitVec 2) (c v : Bool) (n : BitVec 3) :
    let b : Byte := 1#1 ++ l ++ BitVec.ofBool c ++ BitVec.ofBool v ++ n
    b.getLsbD 7 = true ∧ b.extractLsb' 5 2 = l ∧ b.getLsbD 4 = c ∧ b.getLsbD 3 = v ∧ b.extractLsb' 0 3 = n := by
  revert l c v n
  decide

section Pops

variable {s : State} {q : QueueId}

theorem popQueue_record {r : WordRecord} {rest : List WordRecord} (hs : (s.queue q).state ≠ .disabled)
    (he : (s.queue q).entries = r :: rest) :
    s.popQueue q =
      (r.bytes, { s.setQueue q { s.queue q with entries := rest } with queues.free := s.queues.free + 1 }) := by
  cases hstate : (s.queue q).state with
  | disabled => exact absurd hstate hs
  | opened => simp only [State.popQueue, hstate, he]
  | held => simp only [State.popQueue, hstate, he]

theorem popQueue_empty (h : (s.queue q).state = .disabled ∨ (s.queue q).entries = []) :
    s.popQueue q = (emptyWord, s) := by
  rcases s.popQueue_cases q with ⟨-, e⟩ | ⟨r, rest, hs, he, -⟩
  · exact e
  · simp [hs, he] at h

end Pops

/-- Settles O43, by the queue that QSEL names. -/
theorem hostPops : Obligations.HostPops := by
  unfold Obligations.HostPops
  intro s hup q
  have read : ∀ k, exec (.qdataRead k) s = .next { (readQdata k s).2 with dataOut := some (readQdata k s).1 } :=
    fun k => answer_up (readQdata k) s hup
  have hfirst : readQdata 0 s = ((s.popQueue s.queues.qsel).1[0],
      { (s.popQueue s.queues.qsel).2 with queues.hostHold := (s.popQueue s.queues.qsel).1 }) := rfl
  refine ⟨fun r rest hs he => ?_, fun h => ?_, fun k hk => ?_⟩
  · obtain ⟨hvalid, hlane, hcoasted, hverified, hseq⟩ :=
      flagByte_fields (BitVec.ofNat 2 r.lane.val) r.coasted r.verified r.seq3
    refine ⟨r.bytes, rfl, rfl, rfl, hvalid, ?_, hcoasted, hverified, hseq, ?_⟩
    · exact (congrArg BitVec.toNat hlane).trans (Nat.mod_eq_of_lt r.lane.isLt)
    · rw [read, hfirst, popQueue_record hs he]
  · rw [read, hfirst, popQueue_empty h]
    rfl
  · rw [read, readQdata, if_neg hk]

/-! ### DMA ports (R122 to R124, R155) -/

section DmaPorts

variable {s : State} {n : PortId} {v : Byte}

theorem writeDbind_bound (q : QueueId) (h : v.toNat = q.val) :
    writeDbind n v s = s.setPort n { hold := (s.port n).hold, idx := 0, bind := some q } := by
  have hlt : v.toNat < 8 := h ▸ q.isLt
  have he : (⟨v.toNat, hlt⟩ : QueueId) = q := Fin.ext h
  simp only [writeDbind, hlt, dite_true, he]

theorem writeDbind_unbound :
    writeDbind n 0x80 s = s.setPort n { hold := (s.port n).hold, idx := 0, bind := none } := rfl

theorem writeDbind_refused (h : 8 ≤ v.toNat) (hv : v ≠ 0x80) : writeDbind n v s = s.refuseConfig := by
  rw [writeDbind, dif_neg (Nat.not_lt.2 h), if_neg hv]

/-- Conditions 2 and 3 of R124. -/
theorem calls_iff (q : Queue) :
    q.calls = true ↔ (q.state = .opened ∨ q.state = .held) ∧
      (q.threshold ≤ q.depth ∨ (q.drain = true ∧ 1 ≤ q.depth)) := by
  have hstate : q.state ≠ .disabled ↔ q.state = .opened ∨ q.state = .held := by cases q.state <;> simp
  rw [← hstate]
  simp [Queue.calls]

theorem drq_iff : s.drq n = true ↔ ∃ q, (s.port n).bind = some q ∧ (s.queue q).calls = true := by
  unfold State.drq
  cases (s.port n).bind with
  | none => simp
  | some q => simp

/-- A pop through a port that finds a record (R122). -/
theorem popPort_record {q : QueueId} {r : WordRecord} {rest : List WordRecord} (hb : (s.port n).bind = some q)
    (hs : (s.queue q).state ≠ .disabled) (he : (s.queue q).entries = r :: rest) :
    s.popPort n = ({ s with queues.free := s.queues.free + 1 }.setQueue q
      { s.queue q with entries := rest }).setPort n { hold := r.bytes, idx := (s.port n).idx, bind := some q } := by
  simp only [State.popPort, hb, popQueue_record hs he]
  rfl

/-- A pop through a port that finds none: no binding, a DISABLED queue or an empty one. -/
theorem popPort_empty
    (h : ∀ q, (s.port n).bind = some q → (s.queue q).state = .disabled ∨ (s.queue q).entries = []) :
    s.popPort n = s.setPort n { s.port n with hold := emptyWord } := by
  unfold State.popPort
  split
  · rfl
  · next q hb => rw [popQueue_empty (h q hb)]

/-- An addressed read of byte 0 returns the first byte popped. -/
theorem readDdata_first :
    readDdata n 0 s =
      (((s.popPort n).port n).hold[0], (s.popPort n).setPort n { (s.popPort n).port n with idx := 1 }) :=
  rfl

theorem readDdata_later {k : Fin 4} (hk : k ≠ 0) :
    readDdata n k s = ((s.port n).hold[k], s.setPort n { s.port n with idx := nextIdx k }) := by
  simp only [readDdata, if_neg hk]

/-- The acknowledge read is the addressed read of the byte at the port's index (R123). -/
theorem readAck_eq : readAck n s = readDdata n (s.port n).idx s := rfl

end DmaPorts

/-- Settles O44: DBINDn by the byte written, DRQn by the bound queue. -/
theorem dmaBindingAndRequest : Obligations.DmaBindingAndRequest := by
  unfold Obligations.DmaBindingAndRequest
  intro s n v hup p
  have hwrite : exec (.dbindWrite n v) s = .next { writeDbind n v s with dataOut := none } := act_up _ s hup
  refine ⟨fun q hq => ?_, fun hv => ?_, fun h8 hv => ?_, ?_⟩
  · rw [hwrite, writeDbind_bound q hq]
  · rw [hwrite, hv, writeDbind_unbound]
  · rw [hwrite, writeDbind_refused h8 hv]
    rfl
  · simp only [drq_iff, calls_iff]
    rfl

/-- Settles O45: the addressed reads by byte and by what the pop finds, then the acknowledge strobes. -/
theorem dmaPortReads : Obligations.DmaPortReads := by
  unfold Obligations.DmaPortReads
  intro s n hup p
  have read : ∀ k, exec (.ddataRead n k) s = .next { (readDdata n k s).2 with dataOut := some (readDdata n k s).1 } :=
    fun k => answer_up (readDdata n k) s hup
  have hack : exec (.dmaAcknowledgeRead (.read n)) s = .next { (readAck n s).2 with dataOut := some (readAck n s).1 } :=
    answer_up (readAck n) s hup
  have idle : act id s = .next { s with dataOut := none } := act_up id s hup
  refine ⟨fun q r rest hb hs he => ?_, fun h => ?_, fun k hk => ?_, ⟨_, hack, readAck_eq ▸ read (s.port n).idx⟩,
    answer_up (fun t => (0, t)) s hup, idle, idle, idle⟩
  · rw [read, readDdata_first, popPort_record hb hs he, State.port_setPort_self, State.setPort_setPort]
    rfl
  · rw [read, readDdata_first, popPort_empty h, State.port_setPort_self, State.setPort_setPort]
    rfl
  · rw [read, readDdata_later hk, nextIdx_eq]
    rfl

end Sys2Proof

namespace Sys2Proof

open Sys2Proof.Machine

/-! ### The record of a frame's end (R133, R87) -/

/-- Staged records of a PENDING frame are counted as discarded before the count is handed over (R87). -/
theorem settle_discarded (c : CheckBlock) :
    c.settle.discarded =
      if c.state = some .pending then BitVec.ofNat 8 (min 255 (c.discarded.toNat + c.staging.length))
      else c.discarded := by
  unfold CheckBlock.settle
  split <;> rfl

/-- Settles O11: the closed lane and most fields are definitions read out; the discard count is `settle_discarded`, and
the cycle fields are split by whether the tracker holds a value. -/
theorem frameEndRecord : Obligations.FrameEndRecord := by
  unfold Obligations.FrameEndRecord
  intro l i f e
  refine ⟨?_, rfl⟩
  rw [← settle_discarded]
  unfold LaneState.endRecord
  congr 1
  · cases l.tracker.framePos <;> rfl
  · cases l.tracker.frameState <;> rfl

/-! ### Record modes (R132) -/

section RecordModes

variable {s : State} {mode : BitVec 2} {r : FrameRecord}

theorem slip_ne_none_iff (c : StartSlip) : c ≠ .none ↔ c = .early ∨ c = .late := by
  cases c <;> simp

theorem endClass_ne_normal_iff (e : EndClass) :
    e ≠ .normal ↔ e = .short ∨ e = .long ∨ e = .unconfirmed ∨ e = .abandoned := by
  cases e <;> simp

theorem byte_ne_zero_iff (x : Byte) : x ≠ 0 ↔ 1 ≤ x.toNat := by
  bv_omega

/-- The EXCEPTIONS conditions, each by the values that meet it (R132). -/
theorem exceptional_iff :
    r.exceptional = true ↔
      r.kind = .coast ∨ r.slip = .early ∨ r.slip = .late ∨ r.endClass = .short ∨ r.endClass = .long ∨
      r.endClass = .unconfirmed ∨ r.endClass = .abandoned ∨ r.result = .bad ∨ r.result = .unchecked ∨
      r.overflow = true ∨ 1 ≤ r.queueLoss.toNat ∨ 1 ≤ r.withheld.toNat ∨ 1 ≤ r.discarded.toNat := by
  simp only [FrameRecord.exceptional, Bool.or_eq_true, beq_iff_eq, bne_iff_ne, slip_ne_none_iff,
    endClass_ne_normal_iff, byte_ne_zero_iff, or_assoc]

/-- Mode 0 offers no record, mode 1 the exceptional ones, mode 2 every one (R132). -/
theorem modeOffers_iff (h : mode ≠ 3) :
    modeOffers mode r = true ↔ mode = 2 ∨ (mode = 1 ∧ r.exceptional = true) := by
  have hmode : mode = 0 ∨ mode = 1 ∨ mode = 2 := by revert mode; decide
  rcases hmode with rfl | rfl | rfl <;> simp [modeOffers]

/-! ### An offered record (R134, R135) -/

theorem offerRecord_notOffered (h : modeOffers mode r = false) : s.offerRecord mode r = s :=
  if_neg (by simp [h])

theorem offerRecord_stored (h : modeOffers mode r = true) (hroom : s.records.list.length ≤ 63) :
    s.offerRecord mode r =
      { s with records.list := s.records.list ++ [{ r with gap := s.records.gap }], records.gap := false } :=
  (if_pos h).trans (if_pos (Nat.lt_succ_of_le hroom))

theorem offerRecord_dropped (h : modeOffers mode r = true) (hfull : 64 ≤ s.records.list.length) :
    s.offerRecord mode r =
      { s with records.loss := satInc s.records.loss, records.gap := true }.post .recordLoss deviceSource :=
  (if_pos h).trans (if_neg (Nat.not_lt.2 hfull))

end RecordModes

/-- Settles O12: whether the mode offers the record, then whether the queue has room. -/
theorem frameRecordOffered : Obligations.FrameRecordOffered := by
  unfold Obligations.FrameRecordOffered
  intro s mode r hmode exceptional
  have hoffers : modeOffers mode r = true ↔ mode = 2 ∨ (mode = 1 ∧ exceptional) := by
    rw [modeOffers_iff hmode, exceptional_iff]
  refine ⟨fun h => offerRecord_notOffered ?_, fun h hroom => offerRecord_stored (hoffers.2 h) hroom,
    fun h hfull => ?_⟩
  · rw [← Bool.not_eq_true, hoffers]
    rcases h with rfl | ⟨rfl, hplain⟩
    · simp
    · simp [hplain]
  · rw [offerRecord_dropped (hoffers.2 h) hfull, satInc_byte]
    rfl

/-! ### Reads of RDATA (R136) and RECORDS_FLUSH (R138) -/

section RecordReads

variable {s : State}

theorem readRdata_record {r : FrameRecord} {rest : List FrameRecord} (h : s.records.list = r :: rest) :
    readRdata 0 s = (r.bytes[0], { s with records.list := rest, records.hold := r.bytes }) := by
  simp only [readRdata, if_true, h]

theorem readRdata_later {k : Fin 16} (hk : k ≠ 0) : readRdata k s = (s.records.hold[k], s) := if_neg hk

theorem rdataRead_up (k : Fin 16) (hup : s.resetLow = false) :
    exec (.rdataRead k) s = .next { (readRdata k s).2 with dataOut := some (readRdata k s).1 } :=
  answer_up (readRdata k) s hup

/-- On an empty queue the read of RDATA0 gives the empty record. -/
theorem rdataRead_empty (hup : s.resetLow = false) (h : s.records.list = []) :
    exec (.rdataRead 0) s = .next { s with records.hold := Vector.replicate 16 0, dataOut := some 0 } := by
  rw [rdataRead_up 0 hup]
  simp only [readRdata, if_true, h]

end RecordReads

/-- Settles O33: the command's own state, then the read of RDATA0 on the emptied queue. -/
theorem recordsFlushCommand : Obligations.RecordsFlushCommand := by
  unfold Obligations.RecordsFlushCommand
  intro s hup
  exact ⟨_, rfl, command_up 0x40 flushRecords hup, rdataRead_empty hup rfl⟩

/-! ### The bytes of a frame record (R172) -/

/-- Byte 0: valid bit, end class, start kind, lane. -/
theorem recordByte0_fields (e : BitVec 3) (k l : BitVec 2) :
    let b : Byte := 1#1 ++ e ++ k ++ l
    b.getLsbD 7 = true ∧ b.extractLsb' 0 2 = l ∧ b.extractLsb' 2 2 = k ∧ b.extractLsb' 4 3 = e := by
  revert e k l
  decide

/-- Byte 1: gap, polarity, check result, sync errors. -/
theorem recordByte1_fields (g v : Bool) (c : BitVec 2) (n : BitVec 4) :
    let b : Byte := BitVec.ofBool g ++ BitVec.ofBool v ++ c ++ n
    b.extractLsb' 0 4 = n ∧ b.getLsbD 6 = v ∧ b.getLsbD 7 = g ∧ b.extractLsb' 4 2 = c := by
  revert g v c n
  decide

/-- Byte 5: start slip, staging overflow, frame cycle state. -/
theorem recordByte5_fields (p : BitVec 2) (o : Bool) (c : BitVec 2) :
    let b : Byte := 0#3 ++ p ++ BitVec.ofBool o ++ c
    b.extractLsb' 0 2 = c ∧ b.getLsbD 2 = o ∧ b.extractLsb' 5 3 = 0 ∧ b.extractLsb' 3 2 = p := by
  revert p o c
  decide

/-- Bytes 6 to 11: the time tag, lowest byte first. -/
theorem frameRecord_timeTag_bytes (r : FrameRecord) (k : Fin 6) :
    r.bytes[6 + k.val]? = some (r.timeTag.extractLsb' (8 * k.val) 8) := by
  fin_cases k <;> rfl

/-- Settles O46: the read of RDATA0 by what the queue holds, the other reads, then the record byte by byte. -/
theorem frameRecordPopAndLayout : Obligations.FrameRecordPopAndLayout := by
  unfold Obligations.FrameRecordPopAndLayout
  intro s hup
  refine ⟨fun r rest h => ?_, rdataRead_empty hup, fun k hk => ?_, answer_up readRloss s hup, fun r => ?_⟩
  · rw [rdataRead_up 0 hup, readRdata_record h]
  · rw [rdataRead_up k hup, readRdata_later hk]
  · obtain ⟨hvalid, hlane, hkind, hend⟩ :=
      recordByte0_fields r.endClass.code r.kind.code (BitVec.ofNat 2 r.lane.val)
    obtain ⟨herrors, hinverted, hgap, hresult⟩ := recordByte1_fields r.gap r.inverted r.result.code r.errors
    obtain ⟨hcycle, hoverflow, hzero, hslip⟩ := recordByte5_fields r.slip.code r.overflow r.cycleState.code
    have hlaneVal : (r.bytes[0].extractLsb' 0 2).toNat = r.lane.val :=
      (congrArg BitVec.toNat hlane).trans (Nat.mod_eq_of_lt r.lane.isLt)
    exact ⟨hvalid, hlaneVal, hkind, hend, herrors, hinverted, hgap, hresult, rfl, rfl, rfl, hcycle, hoverflow, hzero,
      hslip, frameRecord_timeTag_bytes r, rfl, rfl, rfl, rfl⟩

end Sys2Proof

namespace Sys2Proof

open Sys2Proof.Machine

/-! ### Postings, record by record (R148) -/

/-- A posting either finds its pair unlisted and appends a record, or folds into the first record of that pair. -/
theorem foldPosting_cases (c : Cause) (src : Byte) (now : BitVec 16) (rs : List AttnRecord) :
    ((∀ r ∈ rs, ¬(r.cause = c ∧ r.source = src)) ∧
      foldPosting c src now rs = rs ++ [{ cause := c, source := src, count := 1, first := now }]) ∨
    (∃ before r after, rs = before ++ r :: after ∧ r.cause = c ∧ r.source = src ∧
      foldPosting c src now rs = before ++ { r with count := satInc r.count } :: after) := by
  cases hfind : rs.find? fun r => decide (r.cause = c ∧ r.source = src) with
  | none =>
    have hnew : ∀ r ∈ rs, ¬(r.cause = c ∧ r.source = src) := by simpa using hfind
    exact .inl ⟨hnew, foldPosting_new c src now rs hnew⟩
  | some r =>
    obtain ⟨hr, before, after, rfl, hbefore⟩ := List.find?_eq_some_iff_append.1 hfind
    have hpair : r.cause = c ∧ r.source = src := of_decide_eq_true hr
    have hnone : ∀ x ∈ before, ¬(x.cause = c ∧ x.source = src) := fun x hx => by
      simpa [imp_iff_not_or] using hbefore x hx
    exact .inr ⟨before, r, after, rfl, hpair.1, hpair.2, foldPosting_listed c src now before after r hnone hpair⟩

theorem satInc_byte_ne_zero (x : Byte) : satInc x ≠ 0 := by
  rw [satInc_byte]
  split
  · decide
  · bv_omega

/-! ### The 58 pairs (R147) -/

theorem legalSource_lane {c : Cause} (h : c.code ≤ 9) (i : LaneId) : legalSource c (laneSource i) = true := by
  have hlt : (laneSource i).toNat < 4 := by revert i; decide
  simp [legalSource, h, hlt]

/-- The causes in the order of their codes. -/
def allCauses : List Cause :=
  [.lockGained, .lockLost, .coastEntered, .polaritySet, .laneSilent, .cycleLocked, .cycleLost, .checkBad,
    .stageOverflow, .queueThreshold, .queueLoss, .poolEmpty, .recordLoss, .swapDone, .copyDone, .tableRefused,
    .configRefused]

theorem mem_allCauses (c : Cause) : c ∈ allCauses := by
  cases c <;> decide

/-- The sources that a cause carries, as a list. -/
def sourcesOf (c : Cause) : List Byte :=
  if c.code ≤ 9 then (List.range 4).map (BitVec.ofNat 8)
  else if c.code ≤ 11 then (List.range 8).map (BitVec.ofNat 8)
  else [0xFF]

theorem mem_sourcesOf {c : Cause} {src : Byte} (h : legalSource c src = true) : src ∈ sourcesOf c := by
  have hbelow (n : Nat) (hn : src.toNat < n) : src ∈ (List.range n).map (BitVec.ofNat 8) :=
    List.mem_map.2 ⟨src.toNat, List.mem_range.2 hn, BitVec.ofNat_toNat 8 src⟩
  unfold legalSource at h
  unfold sourcesOf
  split at h
  · next hlane =>
    rw [if_pos hlane]
    exact hbelow 4 (of_decide_eq_true h)
  · next hlane =>
    rw [if_neg hlane]
    split at h
    · next hqueue =>
      rw [if_pos hqueue]
      exact hbelow 8 (of_decide_eq_true h)
    · next hqueue =>
      rw [if_neg hqueue]
      exact List.mem_singleton.2 (eq_of_beq h)

/-- Every pair of a cause and a source that it carries. -/
def legalPairs : List (Cause × Byte) := allCauses.flatMap fun c => (sourcesOf c).map fun src => (c, src)

theorem length_legalPairs : legalPairs.length = 58 := by decide

theorem mem_legalPairs {c : Cause} {src : Byte} (h : legalSource c src = true) : (c, src) ∈ legalPairs :=
  List.mem_flatMap.2 ⟨c, mem_allCauses c, List.mem_map.2 ⟨src, mem_sourcesOf h, rfl⟩⟩

/-! ### Happenings that post nothing leave the attention list alone -/

theorem attn_popQueue (s : State) (q : QueueId) : (s.popQueue q).2.attn = s.attn := by
  rcases s.popQueue_cases q with ⟨-, e⟩ | ⟨_, _, -, -, e⟩ <;> rw [e]
  rfl

theorem attn_popPort (s : State) (n : PortId) : (s.popPort n).attn = s.attn := by
  unfold State.popPort
  split
  · rfl
  · exact attn_popQueue s _

theorem attn_readTrdata (s : State) : (readTrdata s).2.attn = s.attn := by
  unfold readTrdata
  split
  · rfl
  · split <;> rfl

theorem attn_readQdata (k : Fin 4) (s : State) : (readQdata k s).2.attn = s.attn := by
  unfold readQdata
  split
  · exact attn_popQueue s _
  · rfl

theorem attn_readDdata (n : PortId) (k : Fin 4) (s : State) : (readDdata n k s).2.attn = s.attn := by
  unfold readDdata
  dsimp only
  split
  · exact attn_popPort s n
  · rfl

theorem attn_readRdata (k : Fin 16) (s : State) : (readRdata k s).2.attn = s.attn := by
  unfold readRdata
  split
  · split <;> rfl
  · rfl

theorem attn_readTime (k : Fin 6) (s : State) : (readTime k s).2.attn = s.attn := by
  unfold readTime
  split
  · split <;> rfl
  · rfl

theorem attn_holdQueue (q : QueueId) (s : State) : (holdQueue q s).2.attn = s.attn := by
  unfold holdQueue
  split <;> rfl

theorem attn_copyTables (s : State) : (copyTables s).2.attn = s.attn := by
  unfold copyTables
  split <;> rfl

/-! ### The attention list stays sound (R147, R148) -/

namespace AttentionOk

variable {s t : State}

/-- The records listed are all that it speaks of. -/
theorem of_list (h : AttentionOk s) (e : t.attn.list = s.attn.list) : AttentionOk t :=
  ⟨e ▸ h.pairs, e ▸ h.sources, e ▸ h.counts⟩

theorem of_attn (h : AttentionOk s) (e : t.attn = s.attn) : AttentionOk t := h.of_list (by rw [e])

theorem of_nil (e : t.attn.list = []) : AttentionOk t := by
  constructor <;> simp [e]

/-- The list without its head, after a pop (R150). -/
theorem of_tail (h : AttentionOk s) {r : AttnRecord} {rest : List AttnRecord} (hs : s.attn.list = r :: rest)
    (ht : t.attn.list = rest) : AttentionOk t := by
  obtain ⟨hpairs, hsources, hcounts⟩ := h
  rw [hs] at hpairs hsources hcounts
  refine ⟨?_, ?_, ?_⟩ <;> rw [ht]
  · exact (List.nodup_cons.1 hpairs).2
  · exact fun x hx => hsources x (List.mem_cons_of_mem r hx)
  · exact fun x hx => hcounts x (List.mem_cons_of_mem r hx)

/-- A record of a legal pair that is not listed joins at the tail (R148). -/
theorem of_append (h : AttentionOk s) {r : AttnRecord} (hlegal : legalSource r.cause r.source = true)
    (hcount : r.count ≠ 0) (hnew : ∀ x ∈ s.attn.list, ¬(x.cause = r.cause ∧ x.source = r.source))
    (ht : t.attn.list = s.attn.list ++ [r]) : AttentionOk t := by
  refine ⟨?_, ?_, ?_⟩ <;> rw [ht]
  · rw [List.map_append, List.map_singleton, ← List.concat_eq_append]
    refine h.pairs.concat fun hmem => ?_
    obtain ⟨x, hx, hpair⟩ := List.mem_map.1 hmem
    exact hnew x hx (Prod.mk.inj hpair)
  · exact List.forall_mem_append.2 ⟨h.sources, List.forall_mem_singleton.2 hlegal⟩
  · exact List.forall_mem_append.2 ⟨h.counts, List.forall_mem_singleton.2 hcount⟩

/-- A listed record takes another count (R148). -/
theorem of_recount (h : AttentionOk s) {before after : List AttnRecord} {r : AttnRecord} {n : Byte}
    (hs : s.attn.list = before ++ r :: after) (hn : n ≠ 0)
    (ht : t.attn.list = before ++ { r with count := n } :: after) : AttentionOk t := by
  obtain ⟨hpairs, hsources, hcounts⟩ := h
  rw [hs] at hpairs hsources hcounts
  simp only [List.forall_mem_append, List.forall_mem_cons] at hsources hcounts
  obtain ⟨hbefore, -, hafter⟩ := hcounts
  refine ⟨?_, ?_, ?_⟩ <;> rw [ht]
  · simpa using hpairs
  · simpa only [List.forall_mem_append, List.forall_mem_cons] using hsources
  · simpa only [List.forall_mem_append, List.forall_mem_cons] using ⟨hbefore, hn, hafter⟩

theorem post (h : AttentionOk s) {c : Cause} {src : Byte} (hlegal : legalSource c src = true) :
    AttentionOk (s.post c src) := by
  cases hmask : s.attn.admits c with
  | false =>
    rw [State.post_masked s c src hmask]
    exact h
  | true =>
    rw [State.post_admitted s c src hmask]
    rcases foldPosting_cases c src (s.time.counter.extractLsb' 0 16) s.attn.list with
      ⟨hnew, e⟩ | ⟨before, r, after, hs, -, -, e⟩
    · exact h.of_append hlegal (show (1 : Byte) ≠ 0 by decide) hnew e
    · exact h.of_recount hs (satInc_byte_ne_zero r.count) e

/-- A posting that follows changes of other blocks. -/
theorem of_post (h : AttentionOk s) {c : Cause} {src : Byte} (e : t.attn = s.attn) (hlegal : legalSource c src = true) :
    AttentionOk (t.post c src) :=
  (h.of_attn e).post hlegal

theorem refuseConfig (h : AttentionOk s) : AttentionOk s.refuseConfig := h.post (by decide)

/-! #### What the blocks post (R74, R83, R102, R116 to R118, R134) -/

theorem takeActive (h : AttentionOk s) (i : LaneId) : AttentionOk (s.takeActive i) := by
  rcases s.takeActive_cases i with ⟨-, e⟩ | ⟨-, -, e⟩ | ⟨-, -, e⟩ <;> rw [e]
  · exact h
  · exact h.of_attn rfl
  · exact h.of_post (by rfl) (by decide)

theorem loseWord (h : AttentionOk s) (q : QueueId) : AttentionOk (s.loseWord q) :=
  h.of_post (by rfl) (by revert q; decide)

theorem appendWord (h : AttentionOk s) (q : QueueId) (r : WordRecord) : AttentionOk (s.appendWord q r) := by
  have hthreshold {t : State} (k : AttentionOk t) : AttentionOk (t.post .queueThreshold (queueSource q)) :=
    k.post (by revert q; decide)
  have hempty {t : State} (k : AttentionOk t) : AttentionOk (t.post .poolEmpty deviceSource) := k.post (by decide)
  unfold State.appendWord
  dsimp only
  split <;> split
  · exact hempty (hthreshold (h.of_attn rfl))
  · exact hthreshold (h.of_attn rfl)
  · exact hempty (h.of_attn rfl)
  · exact h.of_attn rfl

theorem evictWord (h : AttentionOk s) (q : QueueId) (rest : List WordRecord) (r : WordRecord) :
    AttentionOk (s.evictWord q rest r) :=
  loseWord (h.of_attn (by rfl)) q

theorem offerWord (h : AttentionOk s) (q : QueueId) (r : WordRecord) : AttentionOk (s.offerWord q r).2 := by
  rcases s.offerWord_cases q r with
    ⟨-, e⟩ | ⟨-, e⟩ | ⟨-, -, -, e⟩ | ⟨-, -, ⟨_, rest, -, -, e⟩ | ⟨-, e⟩⟩ <;> rw [e]
  · exact h
  · exact h.loseWord q
  · exact h.appendWord q r
  · exact h.evictWord q rest r
  · exact h.loseWord q

theorem stageWord (h : AttentionOk s) (i : LaneId) (x : Staged) : AttentionOk (s.stageWord i x) := by
  unfold State.stageWord
  dsimp only
  split
  · exact h.of_attn rfl
  · split
    · exact h.of_attn rfl
    · exact h.of_post (by rfl) (legalSource_lane (by decide) i)

theorem offerRecord (h : AttentionOk s) (mode : BitVec 2) (r : FrameRecord) : AttentionOk (s.offerRecord mode r) := by
  rcases s.offerRecord_cases mode r with ⟨-, e⟩ | ⟨-, -, e⟩ | ⟨-, -, e⟩ <;> rw [e]
  · exact h
  · exact h.of_attn rfl
  · exact h.of_post (by rfl) (by decide)

/-! #### A lane's happenings and ticks -/

theorem keptByLanePieces (i : LaneId) : KeptByLanePieces i AttentionOk where
  setLane _ _ _ h := h.of_attn rfl
  post _ _ hc h := h.post (legalSource_lane hc i)
  takeActive _ h := h.takeActive i
  deliver _ q r h := (h.offerWord q r).of_attn rfl
  stageWord _ x h := h.stageWord i x
  offerRecord _ mode r h := h.offerRecord mode r

theorem takeTick (h : AttentionOk s) : AttentionOk (takeTick s) :=
  takeTick_keeps s AttentionOk (fun _ k => k.of_attn rfl) (fun _ _ k => k.of_attn rfl)
    (fun _ i k => (keptByLanePieces i).expireSilence k) h

theorem silenceEvent (h : AttentionOk s) (i : LaneId) : AttentionOk (silenceEvent i s) := by
  rcases silenceEvent_cases s i with ⟨-, e⟩ | ⟨-, e⟩ <;> rw [e]
  · exact h.takeTick
  · exact h

/-! #### Reads (R154, R164) -/

/-- A read of ADATA0 removes the head; no other read reaches the list (R150). -/
theorem readAdata (h : AttentionOk s) (k : Fin 5) : AttentionOk (readAdata k s).2 := by
  unfold Machine.readAdata
  split
  · split
    · exact h.of_list rfl
    · next hs => exact h.of_tail hs rfl
  · exact h

theorem readReg (h : AttentionOk s) (r : Reg) : AttentionOk (readReg r s).2 := by
  cases r with
  | adata k => exact h.readAdata k
  | trdata => exact h.of_attn (attn_readTrdata s)
  | qdata k => exact h.of_attn (attn_readQdata k s)
  | ddata n k => exact h.of_attn (attn_readDdata n k s)
  | rdata k => exact h.of_attn (attn_readRdata k s)
  | timeByte k => exact h.of_attn (attn_readTime k s)
  | lseq k => cases k <;> exact h.of_attn rfl
  | twidx k => cases k <;> exact h.of_attn rfl
  | tridx k => cases k <;> exact h.of_attn rfl
  | qdepth k => cases k <;> exact h.of_attn rfl
  | qlost k => cases k <;> exact h.of_attn rfl
  | poolfree k => cases k <;> exact h.of_attn rfl
  | _ => exact h.of_attn rfl

/-! #### The table store and the commands (R96, R100, R104, R157) -/

theorem swapTables (h : AttentionOk s) : AttentionOk (swapTables s).2 := by
  unfold Machine.swapTables
  dsimp only
  split
  · exact h
  · split
    · exact h.of_post (by rfl) (by decide)
    · exact h.of_attn rfl

theorem copyOne (h : AttentionOk s) : AttentionOk (copyOne s) := by
  cases hc : s.tables.copying with
  | false =>
    rw [copyOne_idle hc]
    exact h
  | true =>
    by_cases hlast : s.tables.copyIdx = 259
    · rw [copyOne_ends hc hlast]
      exact h.of_post (by rfl) (by decide)
    · rw [copyOne_goes hc hlast]
      exact h.of_attn rfl

theorem command (h : AttentionOk s) (code : Byte) (owner : State → CmdStatus × State)
    (ho : ∀ s, AttentionOk s → AttentionOk (owner s).2) : AttentionOk (command code owner s) :=
  command_keeps AttentionOk (fun _ _ _ k => k.of_attn rfl) code owner ho s h

theorem issueCommand (h : AttentionOk s) (code : Byte) : AttentionOk (issueCommand code s) := by
  unfold Machine.issueCommand
  split
  · exact h.command _ _ (withLane_keeps _ _ fun i _ k => (keptByLanePieces i).startLane k)
  · exact h.command _ _ (withLane_keeps _ _ fun i _ k => (keptByLanePieces i).stopLane k)
  · exact h.command _ _ (withLane_keeps _ _ fun i _ k => (keptByLanePieces i).resyncLane k)
  · exact h.command _ _ fun _ k => k.swapTables
  · exact h.command _ _ fun s k => k.of_attn (attn_copyTables s)
  · exact h.command _ _ (withQueue_keeps _ openQueue fun _ _ k => k.of_attn rfl)
  · exact h.command _ _ (withQueue_keeps _ _ fun q s k => k.of_attn (attn_holdQueue q s))
  · exact h.command _ _ (withQueue_keeps _ disableQueue fun _ _ k => k.of_attn rfl)
  · exact h.command _ latchTime fun _ k => k.of_attn rfl
  · exact h.command _ loadTime fun _ k => k.of_attn rfl
  · exact h.command _ flushRecords fun _ k => k.of_attn rfl
  · exact h.command _ softResetAll fun _ _ => of_nil rfl
  · exact h.command code _ fun _ k => k

/-! #### Writes (R154, R164) -/

/-- A write that is taken where its value is in range, and refused elsewhere. -/
theorem ite_refuse (h : AttentionOk s) {p : Prop} [Decidable p] (ht : AttentionOk t) :
    AttentionOk (if p then t else s.refuseConfig) := by
  split
  · exact ht
  · exact h.refuseConfig

theorem dite_refuse (h : AttentionOk s) {p : Prop} [Decidable p] {f : p → State} (hf : ∀ hp, AttentionOk (f hp)) :
    AttentionOk (if hp : p then f hp else s.refuseConfig) := by
  split
  · next hp => exact hf hp
  · exact h.refuseConfig

/-- R96: a commit that is refused posts TABLE_REFUSED. -/
theorem writeTwdata (h : AttentionOk s) (v : Byte) : AttentionOk (writeTwdata v s) := by
  unfold Machine.writeTwdata State.commitRecord
  dsimp only
  split
  · split
    · exact h.of_post (by rfl) (by decide)
    · exact h.of_attn rfl
  · exact h.of_attn rfl

theorem writePdata (h : AttentionOk s) (v : Byte) : AttentionOk (writePdata v s) := by
  unfold Machine.writePdata
  split
  · exact h.refuseConfig.of_attn rfl
  · exact h.of_attn rfl

theorem writeReg (h : AttentionOk s) (r : Reg) (v : Byte) : AttentionOk (writeReg r v s) := by
  cases r with
  | cmd => exact h.issueCommand v
  | pdata => exact h.writePdata v
  | twdata => exact h.writeTwdata v
  | lsel => exact h.dite_refuse fun _ => h.of_attn rfl
  | pidx => exact h.dite_refuse fun _ => h.of_attn rfl
  | qsel => exact h.dite_refuse fun _ => h.of_attn rfl
  | qmode => exact h.ite_refuse (h.of_attn rfl)
  | amask k => exact h.of_list rfl
  | trbank =>
    simp only [Machine.writeReg, writeTrbank]
    split
    · exact h.of_attn rfl
    · exact h.ite_refuse (h.of_attn rfl)
  | dbind n =>
    simp only [Machine.writeReg, writeDbind]
    split
    · exact h.of_attn rfl
    · exact h.ite_refuse (h.of_attn rfl)
  | twidx k =>
    cases k with
    | low => exact h.of_attn rfl
    | high => exact h.dite_refuse fun _ => h.of_attn rfl
  | tridx k =>
    cases k with
    | low => exact h.of_attn rfl
    | high => exact h.dite_refuse fun _ => h.of_attn rfl
  | qquota k =>
    cases k with
    | low => exact h.of_attn rfl
    | high => exact h.ite_refuse (h.of_attn rfl)
  | qthr k =>
    cases k with
    | low => exact h.of_attn rfl
    | high => exact h.ite_refuse (h.of_attn rfl)
  | _ => exact h.of_attn rfl

/-! #### Every command -/

theorem act (h : AttentionOk s) {f : State → State} (hf : ∀ s, AttentionOk s → AttentionOk (f s))
    (e : act f s = .next t) : AttentionOk t :=
  act_keeps AttentionOk (fun _ _ k => k.of_attn rfl) f hf s t h e

theorem answer (h : AttentionOk s) {f : State → Byte × State} (hf : ∀ s, AttentionOk s → AttentionOk (f s).2)
    (e : answer f s = .next t) : AttentionOk t :=
  answer_keeps AttentionOk (fun _ _ k => k.of_attn rfl) f hf s t h e

theorem happening (h : AttentionOk s) {o : Host.Outcome State Fault Refusal} (k : Happening s o) (e : o = .next t) :
    AttentionOk t := by
  cases k with
  | takeBit i b => exact h.act (fun _ k => (keptByLanePieces i).takeBit k b) e
  | tick => exact h.act (fun _ => takeTick) e
  | silence i => exact h.act (fun _ k => k.silenceEvent i) e
  | copy => exact h.act (fun _ => copyOne) e
  | write r v => exact h.act (fun _ k => k.writeReg r v) e
  | read r => exact h.answer (fun _ k => k.readReg r) e
  | acknowledge n => exact h.answer (fun s k => k.of_attn (attn_readDdata n (s.port n).idx s)) e
  | noEffect => exact h.act (f := id) (fun _ k => k) e
  | readNothing => exact h.answer (f := fun u => (0, u)) (fun _ k => k) e
  | reset => cases e; exact of_nil rfl
  | release => cases e; exact h.of_attn rfl

/-- No pair is listed twice and each is one of the 58. -/
theorem length_le (h : AttentionOk s) : s.attn.list.length ≤ 58 := by
  have hsub : (s.attn.list.map fun r => (r.cause, r.source)) ⊆ legalPairs := fun p hp => by
    obtain ⟨r, hr, rfl⟩ := List.mem_map.1 hp
    exact mem_legalPairs (h.sources r hr)
  calc s.attn.list.length = (s.attn.list.map fun r => (r.cause, r.source)).length := (List.length_map _).symm
    _ ≤ legalPairs.length := (h.pairs.subperm hsub).length_le
    _ = 58 := length_legalPairs

end AttentionOk

/-- Settles O58: each command keeps it, and so does taking the command from the queue; the bound counts the pairs. -/
theorem attentionListStaysSound : Obligations.AttentionListStaysSound := by
  unfold Obligations.AttentionListStaysSound
  refine ⟨fun s t h e => ?_, fun s h => h.length_le⟩
  unfold step at e
  split at e
  · cases e
    exact h
  · next c rest _ =>
    have hrest : AttentionOk { s with pending := rest } := h.of_attn rfl
    exact hrest.happening (exec_happening c _) e

end Sys2Proof

namespace Sys2Proof

open Sys2Proof.Machine

/-! ### The expiries of one tick (R143, R4) -/

/-- Several expiries come in some order of the lanes that are due, and a free choice is used only where two or more
are. -/
theorem expireAll_order (s : State) (due : List LaneId) :
    ∃ (order : List LaneId) (n : Nat), order.Perm due ∧
      s.expireAll due = { order.foldl State.expireSilence s with choices := n } ∧
      (order.length ≤ 1 → n = s.choices) := by
  cases due with
  | nil => exact ⟨[], s.choices, .refl _, rfl, fun _ => rfl⟩
  | cons i rest =>
    cases rest with
    | nil =>
      have hkept : (s.expireSilence i).choices = s.choices := (LaneFrame.expireSilence i s).choices
      refine ⟨[i], s.choices, .refl _, ?_, fun _ => rfl⟩
      rw [← hkept]
      rfl
    | cons j rest =>
      have hperm := arrange_perm (Config.silenceOrder s.choices) (i :: j :: rest)
      refine ⟨_, s.choices + 1, hperm, rfl, fun hlen => ?_⟩
      rw [hperm.length_eq, List.length_cons, List.length_cons] at hlen
      omega

/-- Settles O23: the order is one of the lanes due after the count, each of them once. -/
theorem tickCounts : Obligations.TickCounts := by
  unfold Obligations.TickCounts
  intro s hup
  obtain ⟨order, n, hperm, hexpire, hn⟩ := expireAll_order s.countTick s.countTick.dueLanes
  refine ⟨order, n, hperm.nodup_iff.2 (State.dueLanes_nodup _), fun i => hperm.mem_iff.trans mem_dueLanes_iff, ?_, hn⟩
  calc exec .tick s = .next { takeTick s with dataOut := none } := act_up takeTick s hup
    _ = .next { order.foldl State.expireSilence (tickedState s) with choices := n, dataOut := none } := by
      rw [takeTick, hexpire, State.countTick_eq]

/-! ### Postings (R148, R149) -/

/-- Settles O22: by the mask bit, and then by whether the pair is listed. -/
theorem postingEntersList : Obligations.PostingEntersList := by
  unfold Obligations.PostingEntersList
  intro s c src now
  refine ⟨fun hmask => State.post_masked s c src hmask, fun hmask hnew => ?_,
    fun before r after hmask hlist hbefore hcause hsource => ?_⟩
  · rw [State.post_admitted s c src hmask, foldPosting_new c src _ _ hnew]
  · rw [State.post_admitted s c src hmask, hlist,
      foldPosting_listed c src _ before after r hbefore ⟨hcause, hsource⟩, satInc_byte]

/-! ### The time base (R144 to R146) -/

/-- Six bytes joined, the highest first, and each of them taken out again. -/
theorem extract_sixBytes (b5 b4 b3 b2 b1 b0 : Byte) :
    let x := b5 ++ b4 ++ b3 ++ b2 ++ b1 ++ b0
    x.extractLsb' 0 8 = b0 ∧ x.extractLsb' 8 8 = b1 ∧ x.extractLsb' 16 8 = b2 ∧ x.extractLsb' 24 8 = b3 ∧
      x.extractLsb' 32 8 = b4 ∧ x.extractLsb' 40 8 = b5 := by
  simp (disch := omega) only [BitVec.extractLsb'_append_eq_of_le, BitVec.extractLsb'_append_eq_of_add_le,
    Nat.reduceSub, BitVec.extractLsb'_eq_self, and_self]

/-- Byte k of the preset stands at bits 8k to 8k+7 of the value that TIME_LOAD forms. -/
theorem extract_join48 (v : Vector Byte 6) (k : Fin 6) : (join48 v).extractLsb' (8 * k.val) 8 = v[k] := by
  obtain ⟨h0, h1, h2, h3, h4, h5⟩ := extract_sixBytes v[5] v[4] v[3] v[2] v[1] v[0]
  fin_cases k
  exacts [h0, h1, h2, h3, h4, h5]

section TimeReads

variable {s : State}

theorem timeRead_up (k : Fin 6) (hup : s.resetLow = false) :
    exec (.timeRead k) s = .next { (readTime k s).2 with dataOut := some (readTime k s).1 } :=
  answer_up (readTime k) s hup

theorem readTime_latches (h : s.time.waiting = false) :
    readTime 0 s = (byte48 s.time.counter 0, { s with time.latch := s.time.counter }) := by
  simp [readTime, h]

theorem readTime_captured (h : s.time.waiting = true) :
    readTime 0 s = (byte48 s.time.latch 0, { s with time.waiting := false }) := by
  simp [readTime, h]

theorem readTime_later {k : Fin 6} (hk : k ≠ 0) : readTime k s = (byte48 s.time.latch k.val, s) := if_neg hk

end TimeReads

/-- Settles O47: the two commands, then the reads of TIME0 by the capture-waiting flag, then the other bytes. -/
theorem timeLatchLoadAndReads : Obligations.TimeLatchLoadAndReads := by
  unfold Obligations.TimeLatchLoadAndReads
  intro s hup
  refine ⟨command_up 0x30 latchTime hup, ⟨join48 s.time.preset, extract_join48 _, command_up 0x31 loadTime hup⟩,
    fun hclear => ?_, fun hset => ?_, fun k hk => ?_⟩
  · rw [timeRead_up 0 hup, readTime_latches hclear]
    rfl
  · rw [timeRead_up 0 hup, readTime_captured hset]
    rfl
  · rw [timeRead_up k hup, readTime_later hk]
    rfl

/-! ### Reads of ADATA and the interrupt line (R150, R151, R173) -/

section AttentionReads

variable {s : State}

theorem irqLow_iff : s.irqLow = true ↔ s.attn.list ≠ [] := by
  simp [State.irqLow, State.attention]

theorem adataRead_up (k : Fin 5) (hup : s.resetLow = false) :
    exec (.adataRead k) s = .next { (readAdata k s).2 with dataOut := some (readAdata k s).1 } :=
  answer_up (readAdata k) s hup

theorem readAdata_record {r : AttnRecord} {rest : List AttnRecord} (h : s.attn.list = r :: rest) :
    readAdata 0 s = (r.bytes[0], { s with attn.list := rest, attn.hold := r.bytes }) := by
  simp only [readAdata, if_true, h]

theorem readAdata_empty (h : s.attn.list = []) :
    readAdata 0 s = (0, { s with attn.hold := Vector.replicate 5 0 }) := by
  simp only [readAdata, if_true, h]

theorem readAdata_later {k : Fin 5} (hk : k ≠ 0) : readAdata k s = (s.attn.hold[k], s) := if_neg hk

end AttentionReads

/-- Settles O48: IRQ#, then the read of ADATA0 by what the list holds, then the other bytes. -/
theorem attentionReads : Obligations.AttentionReads := by
  unfold Obligations.AttentionReads
  intro s hup
  refine ⟨irqLow_iff, fun r rest hlist => ?_, fun hempty => ?_, fun k hk => ?_⟩
  · rw [adataRead_up 0 hup, readAdata_record hlist]
    rfl
  · rw [adataRead_up 0 hup, readAdata_empty hempty]
    rfl
  · rw [adataRead_up k hup, readAdata_later hk]

end Sys2Proof

namespace Sys2Proof

open Sys2Proof.Machine

/-! ### Every command answers, and RESET# low holds it off (R154, R155, R161) -/

theorem act_next (f : State → State) (s : State) : ∃ t, act f s = .next t := by
  unfold act
  split
  · exact ⟨_, rfl⟩
  · exact ⟨_, rfl⟩

theorem answer_next (f : State → Byte × State) (s : State) : ∃ t, answer f s = .next t := by
  unfold answer
  split
  · exact ⟨_, rfl⟩
  · exact ⟨_, rfl⟩

/-- A happening is an act, an answer or a reset, and each of them leaves a next state. -/
theorem Happening.next {s : State} {o : Host.Outcome State Fault Refusal} (h : Happening s o) : ∃ t, o = .next t := by
  cases h with
  | takeBit i b => exact act_next _ s
  | tick => exact act_next _ s
  | silence i => exact act_next _ s
  | copy => exact act_next _ s
  | write r v => exact act_next _ s
  | read r => exact answer_next _ s
  | acknowledge n => exact answer_next _ s
  | noEffect => exact act_next _ s
  | readNothing => exact answer_next _ s
  | reset => exact ⟨_, rfl⟩
  | release => exact ⟨_, rfl⟩

theorem hostAccess_low (strobe : HostStrobe) (a : Addr) (v : Byte) {s : State} (hlow : s.resetLow = true) :
    hostAccess strobe a v s =
      .next { s with dataOut := if strobesRead (.registerWrite strobe a v) then some 0 else none } := by
  cases strobe with
  | read => exact answer_low _ s hlow
  | write => exact act_low _ s hlow
  | readAndWrite => exact act_low _ s hlow
  | unselected => exact act_low _ s hlow

theorem ackAccess_low (strobe : AckStrobe) {s : State} (hlow : s.resetLow = true) :
    ackAccess strobe s =
      .next { s with dataOut := if strobesRead (.dmaAcknowledgeRead strobe) then some 0 else none } := by
  cases strobe with
  | read n => exact answer_low _ s hlow
  | readBoth => exact answer_low _ s hlow
  | write => exact act_low _ s hlow
  | readAndWrite => exact act_low _ s hlow
  | noStrobe => exact act_low _ s hlow

/-- While RESET# is low a read strobe answers 00h, and any other command drives nothing (R161). -/
theorem exec_low (c : Instr) {s : State} (hlow : s.resetLow = true) (hreset : c ≠ .hardwareReset)
    (hrelease : c ≠ .resetRelease) :
    exec c s = .next { s with dataOut := if strobesRead c then some 0 else none } := by
  cases c with
  | hardwareReset => exact absurd rfl hreset
  | resetRelease => exact absurd rfl hrelease
  | registerWrite strobe a v => exact hostAccess_low strobe a v hlow
  | dmaAcknowledgeRead strobe => exact ackAccess_low strobe hlow
  | pdataRead | lslipRead | lseqRead | twidxRead | tridxRead | trdataRead | qdepthRead | qlostRead | poolfreeRead
  | qdataRead | ddataRead | rdataRead | rlossRead | timeRead | adataRead => exact answer_low _ s hlow
  | _ => exact act_low _ s hlow

/-- Settles O3: by the outcomes a command can have, and by what it strobes while RESET# is low. -/
theorem commandsAnswerAndResetLowHolds : Obligations.CommandsAnswerAndResetLowHolds := by
  unfold Obligations.CommandsAnswerAndResetLowHolds
  exact ⟨fun c s => (exec_happening c s).next, fun c _ hlow hreset hrelease => exec_low c hlow hreset hrelease⟩

/-! ### Commands refused for their argument or their code (R157, R158) -/

theorem withLane_badArg (f : LaneId → State → CmdStatus × State) {s : State} (h : 4 ≤ s.carg.toNat) :
    withLane f s = (.refused .badArg, s) := dif_neg (Nat.not_lt.2 h)

theorem withQueue_badArg (f : QueueId → State → CmdStatus × State) {s : State} (h : 8 ≤ s.carg.toNat) :
    withQueue f s = (.refused .badArg, s) := dif_neg (Nat.not_lt.2 h)

/-- An owner that refuses the command and leaves the state leaves CLAST and CSTAT to report it. -/
theorem command_refused {s : State} (code : Byte) (owner : State → CmdStatus × State) (reason : Reason)
    (hup : s.resetLow = false) (ho : owner s = (.refused reason, s)) :
    act (command code owner) s = .next { s with clast := code, cstat := .refused reason, dataOut := none } := by
  rw [command_up code owner hup, ho]

/-- A code that is none of the table's falls to the last row of R157. -/
theorem issueCommand_badCode {code : Byte} (s : State)
    (h : code ∉ ([0x01, 0x02, 0x03, 0x10, 0x11, 0x20, 0x21, 0x22, 0x30, 0x31, 0x40, 0x7F] : List Byte)) :
    issueCommand code s = command code (fun t => (.refused .badCode, t)) s := by
  simp only [List.mem_cons, not_or, ← BitVec.toNat_inj] at h
  unfold issueCommand
  split <;> simp_all

/-- Settles O32: the argument is out of range or the code is not listed; a listed code's row is its command. -/
theorem commandsRefused : Obligations.CommandsRefused := by
  unfold Obligations.CommandsRefused
  intro s hup
  have lane (code : Byte) (f : LaneId → State → CmdStatus × State) (h : 4 ≤ s.carg.toNat) :=
    command_refused code (withLane f) .badArg hup (withLane_badArg f h)
  have queue (code : Byte) (f : QueueId → State → CmdStatus × State) (h : 8 ≤ s.carg.toNat) :=
    command_refused code (withQueue f) .badArg hup (withQueue_badArg f h)
  refine ⟨fun h => ⟨lane 0x01 startLane h, lane 0x02 stopLane h, lane 0x03 resyncLane h⟩,
    fun h => ⟨queue 0x20 openQueue h, queue 0x21 holdQueue h, queue 0x22 disableQueue h⟩, fun code hcode => ?_,
    rfl, rfl, rfl, rfl, rfl, rfl, rfl, rfl, rfl, rfl, rfl, rfl⟩
  calc exec (.commandBadCode code) s = .next { issueCommand code s with dataOut := none } := act_up _ s hup
    _ = .next { s with clast := code, cstat := .refused .badCode, dataOut := none } := by
      rw [issueCommand_badCode s hcode]
      rfl

/-! ### Hardware reset (R161, R162) -/

theorem queue_resetAsserted (s : State) (q : QueueId) : (resetAsserted s).queue q = Queue.reset :=
  Vector.getElem_replicate q.isLt

theorem port_resetAsserted (s : State) (n : PortId) : (resetAsserted s).port n = DmaPort.reset :=
  Vector.getElem_replicate n.isLt

/-- A port without a binding asks for nothing (R124, condition 1). -/
theorem drq_unbound {s : State} {n : PortId} (h : (s.port n).bind = none) : s.drq n = false := by
  simp [State.drq, h]

/-- Settles O2: block by block, each at its reset value. -/
theorem hardwareResetLeaves : Obligations.HardwareResetLeaves := by
  unfold Obligations.HardwareResetLeaves
  intro s
  refine ⟨rfl, resetAsserted s, rfl, lane_resetAsserted s, queue_resetAsserted s, port_resetAsserted s,
    rfl, rfl, rfl, rfl, rfl, rfl, rfl, rfl, rfl, fun _ => rfl, rfl, rfl, rfl, rfl, rfl, rfl, rfl, rfl, rfl, rfl, rfl,
    rfl, rfl, rfl, fun n => drq_unbound ?_⟩
  rw [port_resetAsserted]
  rfl

/-! ### The invariants after hardware reset (R161, R162) -/

theorem Inv.resetAsserted (s : State) : Inv (resetAsserted s) where
  frames i := by rw [lane_resetAsserted]; exact FrameOk.reset
  started i := by rw [lane_resetAsserted]; exact StartedOk.reset
  capacities := .resetAsserted s
  pool := .resetAsserted s
  swap := .resetAsserted s
  attention := .of_nil rfl

/-- No invariant speaks of the level of RESET# or of the data lines. -/
theorem Inv.resetReleased {s : State} (h : Inv s) : Inv (resetReleased s) where
  frames := h.frames
  started := h.started
  capacities := h.capacities.of_lanes rfl h.capacities.records h.capacities.store
  pool := h.pool.happening .release rfl
  swap := h.swap.happening .release rfl
  attention := h.attention.happening .release rfl

/-- Settles O52: the reset state is what a reset and its release leave. -/
theorem resetMeetsInvariants : Obligations.ResetMeetsInvariants :=
  (Inv.resetAsserted State.reset).resetReleased

/-! ### SOFT_RESET (R159) -/

section SoftReset

variable (s : State)

theorem lane_softResetAll (i : LaneId) :
    (softResetAll s).2.lane i = (s.lane i).softReset s.tables.active := by
  simp [softResetAll, State.lane]

theorem queue_softResetAll (q : QueueId) : (softResetAll s).2.queue q = (s.queue q).softReset := by
  simp [softResetAll, QueueBlock.softReset, State.queue]

theorem port_softResetAll (n : PortId) : (softResetAll s).2.port n = (s.port n).softReset := by
  simp [softResetAll, QueueBlock.softReset, State.port]

/-- An emptied queue with a threshold asks for nothing (R124). -/
theorem calls_softReset {q : Queue} (h : 1 ≤ q.threshold) : q.softReset.calls = false := by
  have hpos : ¬q.threshold = 0 := Nat.one_le_iff_ne_zero.1 h
  simp [Queue.calls, Queue.softReset, Queue.depth, hpos]

theorem drq_softResetAll (h : ∀ q, 1 ≤ (s.queue q).threshold) (n : PortId) : (softResetAll s).2.drq n = false := by
  rw [← Bool.not_eq_true, drq_iff]
  rintro ⟨q, -, hcalls⟩
  rw [queue_softResetAll, calls_softReset (h q)] at hcalls
  cases hcalls

end SoftReset

/-- Settles O34, block by block. -/
theorem softResetCommand : Obligations.SoftResetCommand := by
  unfold Obligations.SoftResetCommand
  intro s hup
  exact ⟨_, command_up 0x7F softResetAll hup, lane_softResetAll s, queue_softResetAll s, port_softResetAll s,
    rfl, rfl, rfl, rfl, rfl, rfl, rfl, rfl, rfl, rfl, rfl, hup, rfl, rfl, rfl, rfl, drq_softResetAll s⟩

/-! ### The admission masks, byte by byte (R149) -/

theorem getLsbD_threeBytes (b2 b1 b0 : Byte) (n : Nat) :
    (b2 ++ b1 ++ b0 : BitVec 24).getLsbD n =
      if n < 8 then b0.getLsbD n else if n < 16 then b1.getLsbD (n - 8) else b2.getLsbD (n - 16) := by
  simp only [BitVec.getLsbD_append]
  split
  · rfl
  · have hshift : n - 8 - 8 = n - 16 := by omega
    have hmid : n - 8 < 8 ↔ n < 16 := by omega
    simp only [hmid, hshift]

theorem getLsbD_maskByte (s : State) (k : Fin 3) {n : Nat} (h : n < 8) :
    (s.maskByte k).getLsbD n = s.attn.masks.getLsbD (8 * k.val + n) := by
  have hlt : 8 * k.val + n < 24 := by omega
  simp [State.maskByte, h, hlt]

/-! ### Writes of the register window (R154, R156, R164, R166) -/

/-- Bit `n` of byte `j` of the masks as a write of AMASKk forms them: the written byte's, or the one that was there. -/
theorem getLsbD_formedMask (s : State) (k j : Fin 3) (v : Byte) {n : Nat} (h : n < 8) :
    (if j = k then v else s.maskByte j).getLsbD n =
      if 8 * k.val ≤ 8 * j.val + n ∧ 8 * j.val + n < 8 * k.val + 8 then v.getLsbD (8 * j.val + n - 8 * k.val)
      else s.attn.masks.getLsbD (8 * j.val + n) := by
  by_cases hjk : j = k
  · subst hjk
    have hin : 8 * j.val ≤ 8 * j.val + n ∧ 8 * j.val + n < 8 * j.val + 8 := by omega
    rw [if_pos rfl, if_pos hin, Nat.add_sub_cancel_left]
  · have hval : j.val ≠ k.val := fun e => hjk (Fin.ext e)
    have hout : ¬(8 * k.val ≤ 8 * j.val + n ∧ 8 * j.val + n < 8 * k.val + 8) := by omega
    rw [if_neg hjk, if_neg hout, getLsbD_maskByte s j h]

/-- A mask after a write of AMASKk: the byte written at its place, the other bits as they were; the 17 bits end within
AMASK2 (R149). -/
theorem getLsbD_writeAmask (s : State) (k : Fin 3) (v : Byte) (b : Nat) :
    (writeAmask k v s).attn.masks.getLsbD b =
      if 8 * k.val ≤ b ∧ b < 8 * k.val + 8 then (v.getLsbD (b - 8 * k.val) && decide (b < 17))
      else s.attn.masks.getLsbD b := by
  by_cases hb : b < 17
  · have hbyte (j : Fin 3) (hlow : 8 * j.val ≤ b) (hhigh : b < 8 * j.val + 8) :=
      Nat.add_sub_cancel' hlow ▸ getLsbD_formedMask s k j v (n := b - 8 * j.val) (by omega)
    simp only [writeAmask, BitVec.getLsbD_setWidth, getLsbD_threeBytes, hb, decide_true, Bool.true_and, Bool.and_true]
    split
    · next h8 => exact hbyte 0 (Nat.zero_le b) h8
    · next h8 =>
      split
      · next h16 => exact hbyte 1 (Nat.not_lt.1 h8) h16
      · next h16 => exact hbyte 2 (Nat.not_lt.1 h16) (Nat.lt_trans hb (by decide))
  · have hzero : ∀ m : BitVec 17, m.getLsbD b = false := fun m => BitVec.getLsbD_of_ge m b (Nat.not_lt.1 hb)
    simp [hzero, hb]

/-- The registers that a write leaves alone, and the addresses without a register (R154, R166). -/
def ignoresWrites : Reg → Bool
  | .cstat | .clast | .dstat | .lstat _ | .lslip | .lseq _ | .twbyte | .trdata | .qdepth _ | .qlost _ | .poolfree _
  | .qdata _ | .ddata _ _ | .rdata _ | .rcount | .rloss | .acount | .adata _ | .unassigned => true
  | _ => false

theorem writeReg_ignored {r : Reg} (h : ignoresWrites r = true) (v : Byte) (s : State) : writeReg r v s = s := by
  cases r with
  | cmd | carg | lsel | pidx | pdata | twidx | twdata | tridx | trbank | qsel | qmode | qquota | qthr | dbind
  | timeByte | amask => cases h
  | _ => rfl

theorem decodeAddr_timeByte (k : Fin 6) : decodeAddr (BitVec.ofNat 7 (0x58 + k.val)) = .timeByte k := by
  revert k
  decide

theorem decodeAddr_amask (k : Fin 3) : decodeAddr (BitVec.ofNat 7 (0x60 + k.val)) = .amask k := by
  revert k
  decide

theorem decodeAddr_ignored (a : Addr)
    (h : a.toNat ∈ [0x02, 0x03, 0x04, 0x05, 0x06, 0x07, 0x08, 0x09, 0x0A, 0x0B, 0x0F, 0x10, 0x11, 0x12, 0x13, 0x17,
        0x1A, 0x1C, 0x1D, 0x1E, 0x1F, 0x63] ∨ (0x26 ≤ a.toNat ∧ a.toNat ≤ 0x2F) ∨ (0x32 ≤ a.toNat ∧ a.toNat ≤ 0x57) ∨
        (0x5E ≤ a.toNat ∧ a.toNat ≤ 0x5F) ∨ (0x64 ≤ a.toNat ∧ a.toNat ≤ 0x7F)) :
    ignoresWrites (decodeAddr a) = true := by
  revert a
  decide

/-- Settles O49: by the register at the address, then the strobes that reach none. -/
theorem registerWrites : Obligations.RegisterWrites := by
  unfold Obligations.RegisterWrites
  intro s a v hup
  have write (a : Addr) : exec (.registerWrite .write a v) s =
      .next { writeReg (decodeAddr a) v s with dataOut := none } := act_up _ s hup
  refine ⟨write 0x01, fun k => ?_, fun k => ⟨_, getLsbD_writeAmask s k v, ?_⟩, fun h => ?_, act_up id s hup,
    act_up id s hup⟩
  · rw [write, decodeAddr_timeByte]
    rfl
  · rw [write, decodeAddr_amask]
    rfl
  · rw [write, writeReg_ignored (decodeAddr_ignored a h)]

/-! ### Reads of the register window that change nothing (R154, R164, R167, R168) -/

theorem cstatByte_eq (c : CmdStatus) : c.byte = match c with
    | .noCommand => 0x00
    | .done => 0x20
    | .started => 0x40
    | .refused .badCode => 0x61
    | .refused .badArg => 0x62
    | .refused .wrongState => 0x63
    | .refused .busy => 0x64
    | .refused .badProfile => 0x65 := by
  cases c with
  | refused reason => cases reason <;> rfl
  | _ => rfl

/-- Six flags in the low bits of a byte, each at its place (R167). -/
theorem flagBits (b5 b4 b3 b2 b1 b0 : Bool) :
    let d : Byte := 0#2 ++ BitVec.ofBool b5 ++ BitVec.ofBool b4 ++ BitVec.ofBool b3 ++ BitVec.ofBool b2 ++
      BitVec.ofBool b1 ++ BitVec.ofBool b0
    d.getLsbD 0 = b0 ∧ d.getLsbD 1 = b1 ∧ d.getLsbD 2 = b2 ∧ d.getLsbD 3 = b3 ∧ d.getLsbD 4 = b4 ∧
      d.getLsbD 5 = b5 ∧ d.extractLsb' 6 2 = 0 := by
  revert b5 b4 b3 b2 b1 b0
  decide

/-- The fields of a lane status byte (R167). -/
theorem laneStatusFields (pending : Bool) (cycle : BitVec 2) (silent inverted : Bool) (lock : BitVec 3) :
    let d : Byte := BitVec.ofBool pending ++ cycle ++ BitVec.ofBool silent ++ BitVec.ofBool inverted ++ lock
    d.extractLsb' 0 3 = lock ∧ d.getLsbD 3 = inverted ∧ d.getLsbD 4 = silent ∧ d.extractLsb' 5 2 = cycle ∧
      d.getLsbD 7 = pending := by
  revert pending cycle silent inverted lock
  decide

/-- The fields of a QMODE byte (R168). -/
theorem modeByteFields (drain dropOld : Bool) (state : BitVec 2) :
    let d : Byte := 0#4 ++ BitVec.ofBool drain ++ BitVec.ofBool dropOld ++ state
    d.extractLsb' 0 2 = state ∧ d.getLsbD 2 = dropOld ∧ d.getLsbD 3 = drain ∧ d.extractLsb' 4 4 = 0 := by
  revert drain dropOld state
  decide

theorem loByte_ofNat (n : Nat) : loByte (BitVec.ofNat 16 n) = BitVec.ofNat 8 n := by
  apply BitVec.eq_of_toNat_eq
  simp only [loByte, BitVec.extractLsb'_toNat, BitVec.toNat_ofNat, Nat.shiftRight_zero]
  omega

theorem hiByte_ofNat (n : Nat) : hiByte (BitVec.ofNat 16 n) = BitVec.ofNat 8 (n / 256) := by
  apply BitVec.eq_of_toNat_eq
  simp only [hiByte, BitVec.extractLsb'_toNat, BitVec.toNat_ofNat, Nat.shiftRight_eq_div_pow]
  omega

theorem decodeAddr_lstat (i : LaneId) : decodeAddr (BitVec.ofNat 7 (0x08 + i.val)) = .lstat i := by
  revert i
  decide

theorem decodeAddr_dbind (n : PortId) : decodeAddr (BitVec.ofNat 7 (0x30 + n.val)) = .dbind n := by
  revert n
  decide

theorem decodeAddr_unassigned (a : Addr)
    (h : a.toNat ∈ [0x05, 0x06, 0x07, 0x12, 0x13, 0x1C, 0x1D, 0x1E, 0x1F, 0x32, 0x33, 0x3C, 0x3D, 0x3E, 0x3F,
        0x52, 0x53, 0x54, 0x55, 0x56, 0x57, 0x5E, 0x5F] ∨ 0x69 ≤ a.toNat) : decodeAddr a = .unassigned := by
  revert a
  decide

theorem bankByte_eq (b : Bank) : bankByte b = if b = .bank0 then 0 else 1 := by
  cases b <;> rfl

section PlainReads

variable (s : State)

/-- DSTAT, bit by bit (R163). -/
theorem dstat_bits :
    s.dstat.getLsbD 0 = decide (s.tables.active = .bank1) ∧ s.dstat.getLsbD 1 = s.tables.swapping ∧
      s.dstat.getLsbD 2 = s.tables.copying ∧ s.dstat.getLsbD 3 = s.tables.copyAborted ∧
      s.dstat.getLsbD 4 = decide (s.queues.free = 0) ∧ s.dstat.getLsbD 5 = decide (s.attn.list ≠ []) ∧
      s.dstat.extractLsb' 6 2 = 0 := by
  have hlisted : s.attention = decide (s.attn.list ≠ []) := by cases h : s.attn.list <;> simp [State.attention, h]
  rw [← hlisted]
  exact flagBits s.attention (s.queues.free == 0) s.tables.copyAborted s.tables.copying s.tables.swapping
    (s.tables.active == .bank1)

/-- LSTATn, field by field (R18). -/
theorem lstat_fields (i : LaneId) :
    (s.lstat i).extractLsb' 0 3 = (s.lane i).engine.lock.code ∧
      (s.lstat i).getLsbD 3 = decide ((s.lane i).intake.polarity = .inverted) ∧
      (s.lstat i).getLsbD 4 = (s.lane i).intake.silent ∧
      (s.lstat i).extractLsb' 5 2 = (s.lane i).tracker.state.code ∧
      (s.lstat i).getLsbD 7 = decide ((s.lane i).bankInUse ≠ s.tables.active) := by
  have hpending : s.swapPending i = decide ((s.lane i).bankInUse ≠ s.tables.active) := by
    rw [Bool.eq_iff_iff, State.swapPending_iff, decide_eq_true_iff]
  rw [← hpending]
  exact laneStatusFields (s.swapPending i) (s.lane i).tracker.state.code (s.lane i).intake.silent
    ((s.lane i).intake.polarity == .inverted) (s.lane i).engine.lock.code

variable {s} {a : Addr} {r : Reg} {d d' : Byte}

/-- A read of a register whose read changes nothing drives the register's byte and leaves the rest. -/
theorem exec_plainRead (v : Byte) (hup : s.resetLow = false) (ha : decodeAddr a = r) (hr : readReg r s = (d, s))
    (hd : d = d') : exec (.registerWrite .read a v) s = .next { s with dataOut := some d' } :=
  calc exec (.registerWrite .read a v) s =
      .next { (readReg (decodeAddr a) s).2 with dataOut := some (readReg (decodeAddr a) s).1 } := answer_up _ s hup
    _ = .next { s with dataOut := some d' } := by rw [ha, hr, hd]

end PlainReads

/-- Settles O51: register by register, in the order of the addresses. -/
theorem plainRegisterReads : Obligations.PlainRegisterReads := by
  unfold Obligations.PlainRegisterReads
  intro s v hup reads q
  have byte {a : Addr} {d d' : Byte} (r : Reg) (ha : decodeAddr a = r) (hr : readReg r s = (d, s)) (hd : d = d') :
      reads a d' := exec_plainRead v hup ha hr hd
  have plain {a : Addr} {d : Byte} (r : Reg) (ha : decodeAddr a = r) (hr : readReg r s = (d, s)) : reads a d :=
    byte r ha hr rfl
  refine ⟨plain .cmd rfl rfl, plain .carg rfl rfl, byte .cstat rfl rfl (cstatByte_eq s.cstat), plain .clast rfl rfl,
    ⟨s.dstat, plain .dstat rfl rfl, dstat_bits s⟩,
    fun i => ⟨s.lstat i, plain _ (decodeAddr_lstat i) rfl, lstat_fields s i⟩,
    plain .lsel rfl rfl, plain .pidx rfl rfl, plain .twdata rfl rfl, plain .twbyte rfl rfl,
    byte .trbank rfl rfl (bankByte_eq s.tables.rBank), plain .qsel rfl rfl,
    ⟨q.modeByte, plain .qmode rfl rfl, modeByteFields q.drain (q.policy == .dropOld) q.state.code⟩,
    byte (.qquota .low) rfl rfl (loByte_ofNat q.quota), byte (.qquota .high) rfl rfl (hiByte_ofNat q.quota),
    byte (.qthr .low) rfl rfl (loByte_ofNat q.threshold), byte (.qthr .high) rfl rfl (hiByte_ofNat q.threshold),
    fun n => plain _ (decodeAddr_dbind n) rfl, plain .rcount rfl rfl, plain .acount rfl rfl,
    fun k => ⟨s.maskByte k, plain _ (decodeAddr_amask k) rfl, fun b hb => getLsbD_maskByte s k hb⟩,
    fun a ha => plain _ (decodeAddr_unassigned a ha) rfl⟩

end Sys2Proof

namespace Sys2Proof

open Sys2Proof.Machine

/-! ### The registers with commands of their own, by address (R164) -/

/-- The address of one half of a two-byte register whose low byte stands at `base`. -/
def halfAddr (base : Nat) (h : Half) : Addr := BitVec.ofNat 7 (base + if h = .low then 0 else 1)

/-- Each two-byte register of the window stands low byte first. -/
theorem decodeAddr_halfAddr (h : Half) :
    decodeAddr (halfAddr 0x10 h) = .lseq h ∧ decodeAddr (halfAddr 0x14 h) = .twidx h ∧
      decodeAddr (halfAddr 0x18 h) = .tridx h ∧ decodeAddr (halfAddr 0x22 h) = .qquota h ∧
      decodeAddr (halfAddr 0x24 h) = .qthr h ∧ decodeAddr (halfAddr 0x26 h) = .qdepth h ∧
      decodeAddr (halfAddr 0x28 h) = .qlost h ∧ decodeAddr (halfAddr 0x2A h) = .poolfree h := by
  cases h <;> decide

theorem decodeAddr_qdata (k : Fin 4) : decodeAddr (BitVec.ofNat 7 (0x2C + k.val)) = .qdata k := by
  revert k
  decide

theorem decodeAddr_ddata (n : PortId) (k : Fin 4) :
    decodeAddr (BitVec.ofNat 7 (0x34 + 4 * n.val + k.val)) = .ddata n k := by
  revert n k
  decide

theorem decodeAddr_rdata (k : Fin 16) : decodeAddr (BitVec.ofNat 7 (0x40 + k.val)) = .rdata k := by
  revert k
  decide

theorem decodeAddr_adata (k : Fin 5) : decodeAddr (BitVec.ofNat 7 (0x64 + k.val)) = .adata k := by
  revert k
  decide

/-! ### An access to such an address is the register's command (R154, R164) -/

section RegisterCommands

variable {s : State} {a : Addr} {r : Reg} {v : Byte} {c : Instr}

/-- A write strobe at the address of `r` is the command that writes `r`. -/
theorem exec_writeStrobe (ha : decodeAddr a = r) (hc : exec c s = act (writeReg r v) s) :
    exec (.registerWrite .write a v) s = exec c s :=
  calc exec (.registerWrite .write a v) s = act (writeReg (decodeAddr a) v) s := rfl
    _ = exec c s := by rw [ha, hc]

/-- A read strobe at the address of `r` is the command that reads `r`. -/
theorem exec_readStrobe (v : Byte) (ha : decodeAddr a = r) (hc : exec c s = answer (readReg r) s) :
    exec (.registerWrite .read a v) s = exec c s :=
  calc exec (.registerWrite .read a v) s = answer (readReg (decodeAddr a)) s := rfl
    _ = exec c s := by rw [ha, hc]

end RegisterCommands

/-- Settles O50: at each address the decoded register, and the command that writes or reads it. -/
theorem registerMapAgrees : Obligations.RegisterMapAgrees := by
  unfold Obligations.RegisterMapAgrees
  intro s v
  have write {a : Addr} {c : Instr} (r : Reg) (ha : decodeAddr a = r) (hc : exec c s = act (writeReg r v) s) :=
    exec_writeStrobe ha hc
  have read {a : Addr} {c : Instr} (r : Reg) (ha : decodeAddr a = r) (hc : exec c s = answer (readReg r) s) :=
    exec_readStrobe v ha hc
  refine ⟨write .cmd rfl rfl, write .lsel rfl rfl, write .pidx rfl rfl, write .pdata rfl rfl, read .pdata rfl rfl,
    read .lslip rfl rfl, write .twdata rfl rfl, read .trdata rfl rfl, write .trbank rfl rfl, write .qsel rfl rfl,
    write .qmode rfl rfl, read .rloss rfl rfl, fun h => ?halves,
    fun k => read (.qdata k) (decodeAddr_qdata k) rfl,
    fun n => ⟨write (.dbind n) (decodeAddr_dbind n) rfl, fun k => read (.ddata n k) (decodeAddr_ddata n k) rfl⟩,
    fun k => read (.rdata k) (decodeAddr_rdata k) rfl, fun k => read (.timeByte k) (decodeAddr_timeByte k) rfl,
    fun k => read (.adata k) (decodeAddr_adata k) rfl⟩
  case halves =>
    obtain ⟨lseq, twidx, tridx, qquota, qthr, qdepth, qlost, poolfree⟩ := decodeAddr_halfAddr h
    exact ⟨read _ lseq rfl, write _ twidx rfl, read _ twidx rfl, write _ tridx rfl, read _ tridx rfl,
      write _ qquota rfl, write _ qthr rfl, read _ qdepth rfl, read _ qlost rfl, read _ poolfree rfl⟩

end Sys2Proof

namespace Sys2Proof

open Sys2Proof.Machine

section FrontCommand

variable {s : State}

/-- Log entry 4: the block idles on an empty queue. -/
theorem step_of_pending_nil (h : s.pending = []) : step s = .next s := by
  rw [step, h]

/-- The command runs on a state whose queue it has left. -/
theorem step_of_pending_cons {c : Instr} {rest : List Instr} (h : s.pending = c :: rest) :
    step s = exec c { s with pending := rest } := by
  rw [step, h]

end FrontCommand

/-- Settles O1: the two branches of `step`, by whether a command waits. -/
theorem stepRunsFrontCommand : Obligations.StepRunsFrontCommand := by
  unfold Obligations.StepRunsFrontCommand
  intro s
  exact ⟨fun _ _ => step_of_pending_cons, step_of_pending_nil⟩

end Sys2Proof
